-- ==== Sys2Proof/Word.lean ====
section
/-!
DEFINITION. The words of the machine (00_scope.md R7 to R9): every register, memory word and the pc is a 16 bit
pattern. `w.toNat` is the spec's `u(w)` and `w.toInt` its `s(w)` (R9).
-/

namespace Sys2Proof

/-- A 16 bit word: a register, a memory word, an address or an instruction (00_scope.md R7, R9). -/
abbrev Word := BitVec 16

/-- A four bit field of an instruction word (00_scope.md R8; 30_encoding.md R71). -/
abbrev Nibble := BitVec 4

/-- The number of a general register, `R0` to `R15` (10_state.md R20). -/
abbrev RegIx := Fin 16

end Sys2Proof
end

