-- ==== Sys2Proof/Config.lean ====
section
/-!
DEFINITION. What an implementation fixes (00_scope.md R7, 92_eei_decisions.md "Open parameters") and the values that
no source fixes. The open parameters are plain data, `Params`, so that a claim can quantify over them; the constants
that have no body are the values the spec leaves without a default.
-/

namespace Sys2Proof

/-- The parameter PROFILE (00_scope.md R2, R7; decision D2): all 44 instructions, or the 22 baseline ones. -/
inductive Profile where
  | full
  | baseline
  deriving DecidableEq, Repr, Inhabited

/-- The parameter BRANCH_BASE (44_control.md R163; decision D6): what a displacement is relative to. -/
inductive BranchBase where
  /-- BRANCH_BASE = 0: relative to the address of the branch itself. -/
  | thisInstruction
  /-- BRANCH_BASE = 1: relative to the address of the next instruction. -/
  | nextInstruction
  deriving DecidableEq, Repr, Inhabited

/-- The parameters of 00_scope.md R7 that the model takes as an argument (log entry 1). -/
structure Params where
  /-- PROFILE (decision D2). -/
  profile : Profile
  /-- UNIFIED_MEMORY (decision D3). -/
  unifiedMemory : Bool
  /-- DMEM_VALID (decision D4), as the address ranges, first and last address, where it is FALSE (log entry 13). -/
  dmemHoles : List (Nat × Nat)
  /-- BRANCH_BASE (decision D6), open. -/
  branchBase : BranchBase
  /-- PSR_RPROC (decision D13), open: the number that names the PSR in the field Rproc. -/
  psrRproc : Fin 16
  deriving DecidableEq, Repr

/-- BRANCH_BASE of the machine in hand. 44_control.md R163 leaves it open with no default, so it has no body.
DESIGN CHOICE (log entry 2): safe, a claim holds for either value. -/
opaque Config.branchBase : BranchBase

/-- PSR_RPROC of the machine in hand. 45_bit_psr.md R180 leaves it open with no default, so it has no body.
DESIGN CHOICE (log entry 3): safe, a claim holds for every value. -/
opaque Config.psrRproc : Fin 16

/-- The free values that SPR reads in the reserved PSR bits 15 to 12, numbered by the draws taken so far
(10_state.md R34, 45_bit_psr.md R179, decision D14: a fresh draw at each SPR). No body.
DESIGN CHOICE (log entry 8): safe, a claim holds whatever the values are. -/
opaque Config.reservedPsrBits : Nat → Nibble

/-- RESET_PC, the spec's value (10_state.md R41; 70_reset_and_hazards.md R230; decision D20). -/
def Config.resetPc : Word := 0x0000#16

/-- The parameters of 00_scope.md R7: the spec's values where R7 gives one, the two open constants where not. -/
def Config.params : Params where
  profile := .full
  unifiedMemory := false
  dmemHoles := []
  branchBase := Config.branchBase
  psrRproc := Config.psrRproc

end Sys2Proof
end

