-- ==== Sys2Proof/Syntax.lean ====
section
/-!
DEFINITION. The instructions of the ECE/CS 3710 RISC Processor, one constructor for each row of
spec/opcode_table.json (30_encoding.md R73), in the table's order. Operands stand in the order of the instruction
word, the field of bits 11 to 8 first; R91 gives the assembler's order, which differs.
-/

namespace Sys2Proof

/-- The sixteen condition codes of 44_control.md R160, in the order of their bit patterns. `nv` is code 1111, which
the source leaves without a mnemonic: "Never Jump" (30_encoding.md R89). -/
inductive Cond where
  | eq | ne | cs | cc | hi | ls | gt | le | fs | fc | lo | hs | lt | ge | uc | nv
  deriving DecidableEq, Repr

/-- The 44 instructions (30_encoding.md R73). -/
inductive Instr where
  | add (rdest rsrc : RegIx)
  | addi (rdest : RegIx) (imm : BitVec 8)
  | addu (rdest rsrc : RegIx)
  | addui (rdest : RegIx) (imm : BitVec 8)
  | addc (rdest rsrc : RegIx)
  | addci (rdest : RegIx) (imm : BitVec 8)
  | mul (rdest rsrc : RegIx)
  | muli (rdest : RegIx) (imm : BitVec 8)
  | sub (rdest rsrc : RegIx)
  | subi (rdest : RegIx) (imm : BitVec 8)
  | subc (rdest rsrc : RegIx)
  | subci (rdest : RegIx) (imm : BitVec 8)
  | cmp (rdest rsrc : RegIx)
  | cmpi (rdest : RegIx) (imm : BitVec 8)
  | and (rdest rsrc : RegIx)
  | andi (rdest : RegIx) (imm : BitVec 8)
  | or (rdest rsrc : RegIx)
  | ori (rdest : RegIx) (imm : BitVec 8)
  | xor (rdest rsrc : RegIx)
  | xori (rdest : RegIx) (imm : BitVec 8)
  | mov (rdest rsrc : RegIx)
  | movi (rdest : RegIx) (imm : BitVec 8)
  | lsh (rdest ramount : RegIx)
  /-- `amount` is the five bit two's complement number `s :: ImmLo` (30_encoding.md R82). -/
  | lshi (rdest : RegIx) (amount : BitVec 5)
  | ashu (rdest ramount : RegIx)
  | ashui (rdest : RegIx) (amount : BitVec 5)
  | lui (rdest : RegIx) (imm : BitVec 8)
  | load (rdest raddr : RegIx)
  /-- `rsrc`, in bits 11 to 8, is the register whose value is stored (43_memory_extend.md R151). -/
  | stor (rsrc raddr : RegIx)
  | snxb (rdest rsrc : RegIx)
  | zrxb (rdest rsrc : RegIx)
  | scond (rdest : RegIx) (cond : Cond)
  | bcond (cond : Cond) (disp : BitVec 8)
  | jcond (cond : Cond) (rtarget : RegIx)
  | jal (rlink rtarget : RegIx)
  | tbit (rsrc roffset : RegIx)
  | tbiti (rsrc : RegIx) (offset : Fin 16)
  | lpr (rsrc : RegIx) (rproc : Fin 16)
  /-- The two fields have swapped places relative to LPR (45_bit_psr.md R179). -/
  | spr (rproc : Fin 16) (rdest : RegIx)
  | di
  | ei
  | excp (vector : Fin 16)
  | retx
  | wait
  deriving DecidableEq, Repr

end Sys2Proof
end

