-- ==== Sys2Proof/WellFormed.lean ====
section
/-!
DEFINITION. Which instructions are well formed. The operand types of `Instr` already bound every field; what is left
are the two conditions the spec puts on an instruction as text: it belongs to the profile (00_scope.md R2, R7) and its
shift immediate "must be in the range -15 to +15" (42_shift_lui.md R140). An ill-formed instruction can still be
decoded: the first kind is rejected by the profile's decoder, the second is decoded and faults when it is executed.
-/

namespace Sys2Proof

/-- Is the instruction one of the 22 marked `*` in 30_encoding.md R73 (00_scope.md R2)? -/
def Instr.isBaseline : Instr → Bool
  | .add .. | .addi .. | .sub .. | .subi .. | .cmp .. | .cmpi .. => true
  | .and .. | .andi .. | .or .. | .ori .. | .xor .. | .xori .. | .mov .. | .movi .. => true
  | .lsh .. | .lshi .. | .lui .. | .load .. | .stor .. => true
  | .bcond .. | .jcond .. | .jal .. => true
  | .addu .. | .addui .. | .addc .. | .addci .. | .mul .. | .muli .. | .subc .. | .subci .. => false
  | .ashu .. | .ashui .. | .snxb .. | .zrxb .. | .scond .. => false
  | .tbit .. | .tbiti .. | .lpr .. | .spr .. => false
  | .di | .ei | .excp .. | .retx | .wait => false

/-- Does a machine with this PROFILE have the instruction (00_scope.md R7; 30_encoding.md R85)? -/
def Instr.inProfile (p : Profile) (i : Instr) : Bool :=
  match p with
  | .full => true
  | .baseline => i.isBaseline

/-- Is a shift immediate in the range -15 to +15 (42_shift_lui.md R140)? Its five bits also express -16, the pattern
10000 (30_encoding.md R82). -/
def shiftImmediateAllowed (amount : BitVec 5) : Bool := amount != 0b10000#5

/-- Does the instruction's shift immediate, if it has one, keep the source's range (42_shift_lui.md R140)? -/
def Instr.amountAllowed : Instr → Bool
  | .lshi _ amount | .ashui _ amount => shiftImmediateAllowed amount
  | .add .. | .addi .. | .addu .. | .addui .. | .addc .. | .addci .. | .mul .. | .muli .. => true
  | .sub .. | .subi .. | .subc .. | .subci .. | .cmp .. | .cmpi .. => true
  | .and .. | .andi .. | .or .. | .ori .. | .xor .. | .xori .. | .mov .. | .movi .. => true
  | .lsh .. | .ashu .. | .lui .. | .load .. | .stor .. | .snxb .. | .zrxb .. => true
  | .scond .. | .bcond .. | .jcond .. | .jal .. => true
  | .tbit .. | .tbiti .. | .lpr .. | .spr .. => true
  | .di | .ei | .excp .. | .retx | .wait => true

/-- An instruction is well formed for a profile if the profile has it and its shift immediate is in range. -/
def Instr.wellFormed (p : Profile) (i : Instr) : Bool := i.inProfile p && i.amountAllowed

end Sys2Proof
end

