-- ==== Sys2Proof/Decode.lean ====
section
/-!
DEFINITION. The decoder, total on every 16 bit word and rejecting by name (30_encoding.md R85 to R89), and after it
the encoder, written from the same rows (R73, R74 to R78). Where the opcode maps and the instruction list disagree the
list holds (90_conflicts.md C1, C2, C6); condition code 1111 is legal (C4); the shift amount -16 decodes (C8).
-/

namespace Sys2Proof

/-! ## The fields of a word (30_encoding.md R71, R72) -/

/-- `op`, bits 15 to 12. -/
def opField (w : Word) : Nibble := w.extractLsb' 12 4

/-- `a`, bits 11 to 8. -/
def aField (w : Word) : Nibble := w.extractLsb' 8 4

/-- `ext`, bits 7 to 4. -/
def extField (w : Word) : Nibble := w.extractLsb' 4 4

/-- `b`, bits 3 to 0. -/
def bField (w : Word) : Nibble := w.extractLsb' 0 4

/-- The 8 bit immediate or displacement, bits 7 to 0. -/
def immField (w : Word) : BitVec 8 := w.extractLsb' 0 8

/-- The 5 bit shift immediate `s :: ImmLo`, bits 4 to 0 (30_encoding.md R82). -/
def amountField (w : Word) : BitVec 5 := w.extractLsb' 0 5

/-- The general register (or other four bit number) that a nibble names (10_state.md R20). -/
def regOf (n : Nibble) : RegIx := n.toFin

/-- The nibble that names a register. -/
def nibbleOf (r : RegIx) : Nibble := BitVec.ofFin r

/-- The condition code map of 30_encoding.md R78, in the order of the codes 0000 to 1111. -/
def condMap : Vector Cond 16 :=
  #v[.eq, .ne, .cs, .cc, .hi, .ls, .gt, .le, .fs, .fc, .lo, .hs, .lt, .ge, .uc, .nv]

/-- The condition that a four bit code names (30_encoding.md R78; 44_control.md R160). -/
def Cond.ofNibble (n : Nibble) : Cond := condMap[n.toFin]

/-- The four bit code of a condition (30_encoding.md R78). -/
def Cond.toNibble : Cond → Nibble
  | .eq => 0b0000#4 | .ne => 0b0001#4 | .cs => 0b0010#4 | .cc => 0b0011#4
  | .hi => 0b0100#4 | .ls => 0b0101#4 | .gt => 0b0110#4 | .le => 0b0111#4
  | .fs => 0b1000#4 | .fc => 0b1001#4 | .lo => 0b1010#4 | .hs => 0b1011#4
  | .lt => 0b1100#4 | .ge => 0b1101#4 | .uc => 0b1110#4 | .nv => 0b1111#4

/-! ## Decoding (30_encoding.md R85) -/

/-- Why a word is no instruction; every one of them is `IllegalInstruction(w)` when it is executed (R88). -/
inductive Reject where
  /-- An (`op`, `ext`) pair the source lists as "Unused OP code" (R86). -/
  | unusedOpcode
  /-- A constant nibble of WAIT, DI, EI, RETX or EXCP is not zero (R87). -/
  | constantNibble
  /-- PROFILE = baseline and the instruction is not marked `*` (R85). -/
  | notInProfile
  deriving DecidableEq, Repr

/-- The instruction of a row all of whose nibbles are constants: DI, EI, RETX, WAIT (R87). -/
def fixedWord (a b : Nibble) (i : Instr) : Except Reject Instr :=
  if a = 0#4 ∧ b = 0#4 then .ok i else .error .constantNibble

/-- EXCP, whose nibble `a` is a constant and whose `b` is the vector (R87). -/
def exceptionWord (a b : Nibble) : Except Reject Instr :=
  if a = 0#4 then .ok (.excp (regOf b)) else .error .constantNibble

/-- The Register group, op = 0000 (R75); the extensions 0100, 1000, 1100 and 1111 are unused (R86). -/
def decodeRegister (a ext b : Nibble) : Except Reject Instr :=
  match ext with
  | 0b0000#4 => fixedWord a b .wait
  | 0b0001#4 => .ok (.and (regOf a) (regOf b))
  | 0b0010#4 => .ok (.or (regOf a) (regOf b))
  | 0b0011#4 => .ok (.xor (regOf a) (regOf b))
  | 0b0101#4 => .ok (.add (regOf a) (regOf b))
  | 0b0110#4 => .ok (.addu (regOf a) (regOf b))
  | 0b0111#4 => .ok (.addc (regOf a) (regOf b))
  | 0b1001#4 => .ok (.sub (regOf a) (regOf b))
  | 0b1010#4 => .ok (.subc (regOf a) (regOf b))
  | 0b1011#4 => .ok (.cmp (regOf a) (regOf b))
  | 0b1101#4 => .ok (.mov (regOf a) (regOf b))
  | 0b1110#4 => .ok (.mul (regOf a) (regOf b))
  | _ => .error .unusedOpcode

/-- The Special group, op = 0100 (R76); the extension 1111 is unused (R86). -/
def decodeSpecial (a ext b : Nibble) : Except Reject Instr :=
  match ext with
  | 0b0000#4 => .ok (.load (regOf a) (regOf b))
  | 0b0001#4 => .ok (.lpr (regOf a) (regOf b))
  | 0b0010#4 => .ok (.snxb (regOf a) (regOf b))
  | 0b0011#4 => fixedWord a b .di
  | 0b0100#4 => .ok (.stor (regOf a) (regOf b))
  | 0b0101#4 => .ok (.spr (regOf a) (regOf b))
  | 0b0110#4 => .ok (.zrxb (regOf a) (regOf b))
  | 0b0111#4 => fixedWord a b .ei
  | 0b1000#4 => .ok (.jal (regOf a) (regOf b))
  | 0b1001#4 => fixedWord a b .retx
  | 0b1010#4 => .ok (.tbit (regOf a) (regOf b))
  | 0b1011#4 => exceptionWord a b
  | 0b1100#4 => .ok (.jcond (Cond.ofNibble a) (regOf b))
  | 0b1101#4 => .ok (.scond (regOf a) (Cond.ofNibble b))
  | 0b1110#4 => .ok (.tbiti (regOf a) (regOf b))
  | _ => .error .unusedOpcode

/-- The Shift group, op = 1000 (R77); bit 4 of the immediate forms is the sign of the amount; the extensions
0101, 0111 and 1000 to 1111 are unused (R86). -/
def decodeShift (a ext b : Nibble) (amount : BitVec 5) : Except Reject Instr :=
  match ext with
  | 0b0000#4 | 0b0001#4 => .ok (.lshi (regOf a) amount)
  | 0b0010#4 | 0b0011#4 => .ok (.ashui (regOf a) amount)
  | 0b0100#4 => .ok (.lsh (regOf a) (regOf b))
  | 0b0110#4 => .ok (.ashu (regOf a) (regOf b))
  | _ => .error .unusedOpcode

/-- The instruction that a word is, with PROFILE = full (R74, R85). All sixteen values of `op` are used, so the last arm is
never taken. -/
def decode (w : Word) : Except Reject Instr :=
  match opField w with
  | 0b0000#4 => decodeRegister (aField w) (extField w) (bField w)
  | 0b0001#4 => .ok (.andi (regOf (aField w)) (immField w))
  | 0b0010#4 => .ok (.ori (regOf (aField w)) (immField w))
  | 0b0011#4 => .ok (.xori (regOf (aField w)) (immField w))
  | 0b0100#4 => decodeSpecial (aField w) (extField w) (bField w)
  | 0b0101#4 => .ok (.addi (regOf (aField w)) (immField w))
  | 0b0110#4 => .ok (.addui (regOf (aField w)) (immField w))
  | 0b0111#4 => .ok (.addci (regOf (aField w)) (immField w))
  | 0b1000#4 => decodeShift (aField w) (extField w) (bField w) (amountField w)
  | 0b1001#4 => .ok (.subi (regOf (aField w)) (immField w))
  | 0b1010#4 => .ok (.subci (regOf (aField w)) (immField w))
  | 0b1011#4 => .ok (.cmpi (regOf (aField w)) (immField w))
  | 0b1100#4 => .ok (.bcond (Cond.ofNibble (aField w)) (immField w))
  | 0b1101#4 => .ok (.movi (regOf (aField w)) (immField w))
  | 0b1110#4 => .ok (.muli (regOf (aField w)) (immField w))
  | 0b1111#4 => .ok (.lui (regOf (aField w)) (immField w))
  | _ => .error .unusedOpcode

/-- Keep an instruction only if the profile has it (R85: with `PROFILE = baseline` every other one is illegal). -/
def restrictTo (p : Profile) (i : Instr) : Except Reject Instr :=
  if i.inProfile p then .ok i else .error .notInProfile

/-- The decoder of a machine with the given PROFILE (R85). -/
def decodeFor (p : Profile) (w : Word) : Except Reject Instr := (decode w).bind (restrictTo p)

/-! ## Encoding (30_encoding.md R72, R73) -/

/-- The formats RR, SR, SP and FX: four nibbles (R72). -/
def packNibbles (op a ext b : Nibble) : Word := op ++ a ++ ext ++ b

/-- The formats RI and BR: two nibbles and a byte (R72). -/
def packImmediate (op a : Nibble) (imm : BitVec 8) : Word := op ++ a ++ imm

/-- The format SI: `1000 Rdest 00 kind s ImmLo`, `kind` 0 for LSHI and 1 for ASHUI (R72). -/
def packShift (a : Nibble) (kind : BitVec 1) (amount : BitVec 5) : Word := 0b1000#4 ++ a ++ 0b00#2 ++ kind ++ amount

/-- The word of an instruction (R73, row by row). -/
def encode : Instr → Word
  | .add rdest rsrc => packNibbles 0b0000#4 (nibbleOf rdest) 0b0101#4 (nibbleOf rsrc)
  | .addi rdest imm => packImmediate 0b0101#4 (nibbleOf rdest) imm
  | .addu rdest rsrc => packNibbles 0b0000#4 (nibbleOf rdest) 0b0110#4 (nibbleOf rsrc)
  | .addui rdest imm => packImmediate 0b0110#4 (nibbleOf rdest) imm
  | .addc rdest rsrc => packNibbles 0b0000#4 (nibbleOf rdest) 0b0111#4 (nibbleOf rsrc)
  | .addci rdest imm => packImmediate 0b0111#4 (nibbleOf rdest) imm
  | .mul rdest rsrc => packNibbles 0b0000#4 (nibbleOf rdest) 0b1110#4 (nibbleOf rsrc)
  | .muli rdest imm => packImmediate 0b1110#4 (nibbleOf rdest) imm
  | .sub rdest rsrc => packNibbles 0b0000#4 (nibbleOf rdest) 0b1001#4 (nibbleOf rsrc)
  | .subi rdest imm => packImmediate 0b1001#4 (nibbleOf rdest) imm
  | .subc rdest rsrc => packNibbles 0b0000#4 (nibbleOf rdest) 0b1010#4 (nibbleOf rsrc)
  | .subci rdest imm => packImmediate 0b1010#4 (nibbleOf rdest) imm
  | .cmp rdest rsrc => packNibbles 0b0000#4 (nibbleOf rdest) 0b1011#4 (nibbleOf rsrc)
  | .cmpi rdest imm => packImmediate 0b1011#4 (nibbleOf rdest) imm
  | .and rdest rsrc => packNibbles 0b0000#4 (nibbleOf rdest) 0b0001#4 (nibbleOf rsrc)
  | .andi rdest imm => packImmediate 0b0001#4 (nibbleOf rdest) imm
  | .or rdest rsrc => packNibbles 0b0000#4 (nibbleOf rdest) 0b0010#4 (nibbleOf rsrc)
  | .ori rdest imm => packImmediate 0b0010#4 (nibbleOf rdest) imm
  | .xor rdest rsrc => packNibbles 0b0000#4 (nibbleOf rdest) 0b0011#4 (nibbleOf rsrc)
  | .xori rdest imm => packImmediate 0b0011#4 (nibbleOf rdest) imm
  | .mov rdest rsrc => packNibbles 0b0000#4 (nibbleOf rdest) 0b1101#4 (nibbleOf rsrc)
  | .movi rdest imm => packImmediate 0b1101#4 (nibbleOf rdest) imm
  | .lsh rdest ramount => packNibbles 0b1000#4 (nibbleOf rdest) 0b0100#4 (nibbleOf ramount)
  | .lshi rdest amount => packShift (nibbleOf rdest) 0b0#1 amount
  | .ashu rdest ramount => packNibbles 0b1000#4 (nibbleOf rdest) 0b0110#4 (nibbleOf ramount)
  | .ashui rdest amount => packShift (nibbleOf rdest) 0b1#1 amount
  | .lui rdest imm => packImmediate 0b1111#4 (nibbleOf rdest) imm
  | .load rdest raddr => packNibbles 0b0100#4 (nibbleOf rdest) 0b0000#4 (nibbleOf raddr)
  | .stor rsrc raddr => packNibbles 0b0100#4 (nibbleOf rsrc) 0b0100#4 (nibbleOf raddr)
  | .snxb rdest rsrc => packNibbles 0b0100#4 (nibbleOf rdest) 0b0010#4 (nibbleOf rsrc)
  | .zrxb rdest rsrc => packNibbles 0b0100#4 (nibbleOf rdest) 0b0110#4 (nibbleOf rsrc)
  | .scond rdest cond => packNibbles 0b0100#4 (nibbleOf rdest) 0b1101#4 cond.toNibble
  | .bcond cond disp => packImmediate 0b1100#4 cond.toNibble disp
  | .jcond cond rtarget => packNibbles 0b0100#4 cond.toNibble 0b1100#4 (nibbleOf rtarget)
  | .jal rlink rtarget => packNibbles 0b0100#4 (nibbleOf rlink) 0b1000#4 (nibbleOf rtarget)
  | .tbit rsrc roffset => packNibbles 0b0100#4 (nibbleOf rsrc) 0b1010#4 (nibbleOf roffset)
  | .tbiti rsrc offset => packNibbles 0b0100#4 (nibbleOf rsrc) 0b1110#4 (nibbleOf offset)
  | .lpr rsrc rproc => packNibbles 0b0100#4 (nibbleOf rsrc) 0b0001#4 (nibbleOf rproc)
  | .spr rproc rdest => packNibbles 0b0100#4 (nibbleOf rproc) 0b0101#4 (nibbleOf rdest)
  | .di => packNibbles 0b0100#4 0b0000#4 0b0011#4 0b0000#4
  | .ei => packNibbles 0b0100#4 0b0000#4 0b0111#4 0b0000#4
  | .excp vector => packNibbles 0b0100#4 0b0000#4 0b1011#4 (nibbleOf vector)
  | .retx => packNibbles 0b0100#4 0b0000#4 0b1001#4 0b0000#4
  | .wait => packNibbles 0b0000#4 0b0000#4 0b0000#4 0b0000#4

/-! ## The host's questions -/

/-- The instruction word whose bits are those of `w` below `nbits`, every bit above them 0. -/
def tableWord (nbits w : Nat) : Word := BitVec.ofNat 16 (w % 2 ^ nbits)

/-- The instruction the decoder reads from the bits `w` of an opcode-table row; none where it refuses. The table lists
all 44 instructions, so PROFILE is full (log entry 11). -/
def decodeTableWord (nbits w : Nat) : Option Instr := (decode (tableWord nbits w)).toOption

end Sys2Proof
end

