-- ==== Sys2Proof/Machine/State.lean ====
section
/-!
DEFINITION. The state of the machine as plain data (10_state.md R20 to R41), the reasons a step can stop
(00_scope.md R11, 60_exceptions.md R201) and the state after reset (10_state.md R41, 70_reset_and_hazards.md R230 to
R233). Rule R40 says there is nothing else.
-/

namespace Sys2Proof.Machine

/-- The program status register as its nine bit tuple (10_state.md R26, R34), the most significant field first. Bits
8, 4 and 3 are hardwired zeros and bits 15 to 12 hold nothing, so neither has a field. -/
structure Psr where
  /-- Bit 11, "used for interrupt processing": storage only (R32). -/
  i : Bool
  /-- Bit 10, "for program tracing": storage only (R33). -/
  p : Bool
  /-- Bit 9, "used for interrupt processing": storage only (R32). -/
  e : Bool
  /-- Bit 7, negative: signed order of a compare (R31). -/
  n : Bool
  /-- Bit 6, zero: equality of a compare (R30). -/
  z : Bool
  /-- Bit 5, flag: signed overflow, or a tested bit (R29). -/
  f : Bool
  /-- Bit 2, low: unsigned order of a compare (R28). -/
  l : Bool
  /-- Bit 1, "for program tracing": storage only (R33). -/
  t : Bool
  /-- Bit 0, carry or borrow (R27). -/
  c : Bool
  deriving DecidableEq, Repr

/-- A memory of 16 bit words: (address, word) pairs, their addresses strictly rising. An address that is not listed
holds no value (10_state.md R41; 20_memory.md R56, R58). The cell is the word, since no byte exists (20_memory.md R50,
R51; log entry 6). -/
abbrev Memory := List (Nat × Word)

/-- The state of the machine. -/
structure State where
  /-- The general registers R0 to R15, none special (R20, R21). -/
  regs : Vector Word 16
  /-- The address of the instruction to execute, a word address of IMEM (R23). -/
  pc : Word
  /-- The program status register (R26). -/
  psr : Psr
  /-- The instruction memory: the program image the host loaded (R37). -/
  imem : Memory
  /-- The data memory (R38). -/
  dmem : Memory
  /-- Set by WAIT: no instruction is fetched any more (R39). -/
  waiting : Bool
  /-- The MODEL's own field: the parameters of 00_scope.md R7, which no step changes (log entry 1). -/
  params : Params
  /-- The MODEL's own field: how many free values SPR has taken (R34; log entry 8). -/
  draws : Nat
  deriving DecidableEq, Repr

/-- The state that nothing has written and that a fault names. Registers and PSR fields always hold a value here (log
entries 4 and 5), so only memory words are left of 60_exceptions.md R201's list. -/
inductive Unwritten where
  /-- A word outside the loaded program image. -/
  | imem (a : Word)
  /-- A data word that was neither loaded nor stored. -/
  | dmem (a : Word)
  deriving DecidableEq, Repr

/-- The faults of 60_exceptions.md R201: the run has gone wrong, no state changes, there is no next state. All are the
spec's own. -/
inductive Fault where
  /-- The fetched word is no instruction of this machine (30_encoding.md R85 to R88). Raised by `step`. Safe: a machine
  with custom instructions may go on. -/
  | illegalInstruction (w : Word)
  /-- A shift amount outside -15..15 (42_shift_lui.md R140). Raised by LSH, LSHI, ASHU, ASHUI. Safe. -/
  | shiftAmountOutOfRange (amount : Int)
  /-- A bit offset above 15 (45_bit_psr.md R177). Raised by TBIT. Safe. -/
  | bitOffsetOutOfRange (offset : Nat)
  /-- An Rproc that is not PSR_RPROC (45_bit_psr.md R180). Raised by LPR and SPR. Safe. -/
  | unknownProcessorRegister (n : Fin 16)
  /-- A data address where DMEM_VALID is false (20_memory.md R55 to R57). Raised by LOAD and STOR. Safe. -/
  | invalidDataAddress (a : Word)
  /-- A store into the program image with UNIFIED_MEMORY = true (20_memory.md R57, R64). Raised by STOR. Safe. -/
  | storeToCode (a : Word)
  /-- A read of a memory word that holds no value (20_memory.md R56, R58). Raised by the fetch and by LOAD. Safe. -/
  | readOfUnwrittenState (what : Unwritten)
  deriving DecidableEq, Repr

/-- The four instructions that the source documents by encoding only (46_system.md R185). -/
inductive EncodingOnly where
  | di
  | ei
  | excp (vector : Fin 16)
  | retx
  deriving DecidableEq, Repr

/-- The refusals: the model gives the instruction no meaning, and nothing is proved about a run that reaches one. -/
inductive Refusal where
  /-- An arm of `exec` not reached yet; raised by no arm of this model. Safe. -/
  | notModelled (mnemonic : String)
  /-- The spec's `refuse Unmodelled(m)` (46_system.md R185 to R189, decision D17): a documented instruction with no
  documented effect. Raised by DI, EI, EXCP, RETX. Safe. -/
  | unmodelled (what : EncodingOnly)
  deriving DecidableEq, Repr

/-- What one instruction answers (00_scope.md R11). -/
abbrev Result := Host.Outcome State Fault Refusal

/-- What 10_state.md R41 leaves open at reset: RESET_PC, the registers, the PSR fields and the parameters. -/
structure ResetDraw where
  resetPc : Word
  regs : Vector Word 16
  psr : Psr
  params : Params
  deriving DecidableEq, Repr

/-- The machine right after reset for one draw of what R41 leaves open: the second treatment of
70_reset_and_hazards.md R233, under which a claim holds for every draw. Nothing is loaded and `waiting` is false. -/
def State.resetFrom (d : ResetDraw) : State where
  regs := d.regs
  pc := d.resetPc
  psr := d.psr
  imem := []
  dmem := []
  waiting := false
  params := d.params
  draws := 0

/-- A PSR with every field 0. -/
def Psr.zero : Psr where
  i := false
  p := false
  e := false
  n := false
  z := false
  f := false
  l := false
  t := false
  c := false

/-- The draw that `State.reset` names: RESET_PC and the parameters as the spec gives them; registers and PSR fields
zero. DESIGN CHOICE (log entries 4 and 5), unsafe: the spec gives these no value. -/
def ResetDraw.named : ResetDraw where
  resetPc := Config.resetPc
  regs := Vector.replicate 16 0#16
  psr := Psr.zero
  params := Config.params

/-- The machine right after reset (10_state.md R41; 70_reset_and_hazards.md R230 to R232). No program is loaded. -/
def State.reset : State := State.resetFrom ResetDraw.named

end Sys2Proof.Machine
end

