-- ==== Sys2Proof/Machine/Flags.lean ====
section
/-!
DEFINITION. Every value and every flag the arithmetic computes (40_arithmetic.md R101 to R115), the shifts
(42_shift_lui.md R135), the condition codes (44_control.md R160) and the 16 bit image of the PSR (10_state.md R26,
R34; 45_bit_psr.md R178, R179). Values are computed exactly on unbounded integers and then cut to 16 bits (00_scope.md
R9).
-/

namespace Sys2Proof.Machine

/-! ## Addition, subtraction, multiplication, comparison -/

/-- `(u(A) + u(B) + c) mod 2^16` (40_arithmetic.md R102 to R107). -/
def addValue (a b : Word) (c : Bool) : Word := BitVec.ofNat 16 (a.toNat + b.toNat + c.toNat)

/-- `(u(A) - u(B) - c) mod 2^16` (40_arithmetic.md R110 to R113). -/
def subValue (a b : Word) (c : Bool) : Word := BitVec.ofInt 16 (a.toNat - b.toNat - c.toNat)

/-- `(u(A) * u(B)) mod 2^16` (40_arithmetic.md R108, R109). -/
def mulValue (a b : Word) : Word := BitVec.ofNat 16 (a.toNat * b.toNat)

/-- Does an exact signed result lie outside -32768..32767 (10_state.md R29)? -/
def signedOverflow (r : Int) : Bool := decide (r < -32768 ∨ 32767 < r)

/-- `AddFlags(A, B, c)`: C the carry out of bit 15, F the signed overflow, nothing else (40_arithmetic.md R101). -/
def addFlags (a b : Word) (c : Bool) (p : Psr) : Psr :=
  { p with
    c := decide (65535 < a.toNat + b.toNat + c.toNat)
    f := signedOverflow (a.toInt + b.toInt + c.toNat) }

/-- `SubFlags(A, B, c)`: C the borrow, F the signed overflow, nothing else (40_arithmetic.md R101). -/
def subFlags (a b : Word) (c : Bool) (p : Psr) : Psr :=
  { p with
    c := decide (a.toNat < b.toNat + c.toNat)
    f := signedOverflow (a.toInt - b.toInt - c.toNat) }

/-- The flags of CMP: Z equality, L and N the unsigned and the signed order of B above A; C and F are left alone
(40_arithmetic.md R114; 90_conflicts.md C9). -/
def cmpFlags (a b : Word) (p : Psr) : Psr :=
  { p with
    z := decide (a = b)
    l := decide (a.toNat < b.toNat)
    n := decide (a.toInt < b.toInt) }

/-- The flag of TBIT and TBITI: F is bit `k` of the register, bit 0 the least significant (45_bit_psr.md R175). -/
def testBitFlags (v : Word) (k : Nat) (p : Psr) : Psr := { p with f := v.getLsbD k }

/-! ## Shifts -/

/-- `LogicalShift(A, n)`: left for n at least 0, right for n below 0, zeros entering (42_shift_lui.md R135). -/
def logicalShift (a : Word) (n : Int) : Word := if 0 ≤ n then a <<< n.toNat else a >>> (-n).toNat

/-- `ArithmeticShift(A, n)`: as the logical shift to the left; to the right, copies of bit 15 enter
(42_shift_lui.md R135). -/
def arithmeticShift (a : Word) (n : Int) : Word := if 0 ≤ n then a <<< n.toNat else a.sshiftRight (-n).toNat

/-! ## Conditions -/

/-- `cond(c)` on a PSR, the source's Table 1 (44_control.md R160). -/
def condHolds (p : Psr) : Cond → Bool
  | .eq => p.z
  | .ne => !p.z
  | .cs => p.c
  | .cc => !p.c
  | .hi => p.l
  | .ls => !p.l
  | .gt => p.n
  | .le => !p.n
  | .fs => p.f
  | .fc => !p.f
  | .lo => !p.l && !p.z
  | .hs => p.l || p.z
  | .lt => !p.n && !p.z
  | .ge => p.n || p.z
  | .uc => true
  | .nv => false

/-! ## The image of the PSR -/

/-- The 16 bits that SPR gives, `r :: I :: P :: E :: 0 :: N :: Z :: F :: 0 :: 0 :: L :: T :: C` (45_bit_psr.md R179). -/
def Psr.image (reserved : Nibble) (p : Psr) : Word :=
  reserved ++ BitVec.ofBool p.i ++ BitVec.ofBool p.p ++ BitVec.ofBool p.e ++ 0#1 ++
    BitVec.ofBool p.n ++ BitVec.ofBool p.z ++ BitVec.ofBool p.f ++ 0#1 ++ 0#1 ++
    BitVec.ofBool p.l ++ BitVec.ofBool p.t ++ BitVec.ofBool p.c

/-- The PSR that LPR loads: the nine fields of a word; bits 15 to 12, 8, 4 and 3 are discarded (45_bit_psr.md R178). -/
def Psr.ofWord (v : Word) : Psr where
  i := v.getLsbD 11
  p := v.getLsbD 10
  e := v.getLsbD 9
  n := v.getLsbD 7
  z := v.getLsbD 6
  f := v.getLsbD 5
  l := v.getLsbD 2
  t := v.getLsbD 1
  c := v.getLsbD 0

end Sys2Proof.Machine
end

