-- ==== Sys2Proof/Machine/Operands.lean ====
section
/-!
DEFINITION. The operand forms of the instruction set (30_encoding.md R79 to R84; 42_shift_lui.md R135, R140;
45_bit_psr.md R175 to R177) and the reading and writing of general registers (10_state.md R20 to R22).
-/

namespace Sys2Proof.Machine

/-! ## General registers -/

/-- `x[r]` (00_scope.md R10; 10_state.md R20). -/
def State.readReg (s : State) (r : RegIx) : Word := s.regs[r]

/-- `x[r] <- v`; no register is hardwired (10_state.md R21, R22). -/
def State.writeReg (s : State) (r : RegIx) (v : Word) : State := { s with regs := s.regs.set r v }

/-! ## Immediates -/

/-- The sign-extended immediate of ADDI, ADDUI, ADDCI, MULI, SUBI, SUBCI and CMPI (30_encoding.md R79). -/
def sext8 (imm : BitVec 8) : Word := imm.signExtend 16

/-- The zero-extended immediate of ANDI, ORI, XORI and MOVI (30_encoding.md R80; 90_conflicts.md C3). -/
def zext8 (imm : BitVec 8) : Word := imm.zeroExtend 16

/-- The immediate of LUI, `w[7:0] :: 0x00` (30_encoding.md R81). -/
def upperImmediate (imm : BitVec 8) : Word := imm ++ 0x00#8

/-- The low byte `v[7:0]` of a register, the operand of SNXB and ZRXB (43_memory_extend.md R153, R154). -/
def lowByte (v : Word) : BitVec 8 := v.extractLsb' 0 8

/-! ## Shift amounts and bit offsets -/

/-- The amount of LSH and ASHU: the whole register as a signed number (42_shift_lui.md R136). -/
def registerAmount (v : Word) : Int := v.toInt

/-- The amount of LSHI and ASHUI: the five bits `s :: ImmLo` as one two's complement number (30_encoding.md R82). -/
def immediateAmount (amount : BitVec 5) : Int := amount.toInt

/-- Is an amount one that the source allows, -15 to +15 (42_shift_lui.md R140)? -/
def amountInRange (n : Int) : Bool := decide (-15 ≤ n ∧ n ≤ 15)

/-- The offset of TBIT: the whole register as an unsigned number (45_bit_psr.md R175). -/
def registerOffset (v : Word) : Nat := v.toNat

/-- Is an offset one that the source allows, 0 to 15 (45_bit_psr.md R177)? -/
def offsetInRange (k : Nat) : Bool := decide (k ≤ 15)

/-! ## Branch targets -/

/-- BRANCH_BASE as the number that is added to the pc (44_control.md R163). -/
def branchOffset : BranchBase → Word
  | .thisInstruction => 0#16
  | .nextInstruction => 1#16

/-- The target of a taken Bcond: `(pc + BRANCH_BASE + s(sext_8(disp))) mod 2^16` (44_control.md R163). -/
def State.branchTarget (s : State) (disp : BitVec 8) : Word := s.pc + branchOffset s.params.branchBase + sext8 disp

/-- The address of the next instruction, `(pc + 1) mod 2^16` (10_state.md R24, R25). -/
def State.nextPc (s : State) : Word := s.pc + 1#16

end Sys2Proof.Machine
end

