-- ==== Sys2Proof/Machine/Ops.lean ====
section
/-!
DEFINITION. The named operations: the memories and their access primitives (20_memory.md R56 to R59), the pc and the
PSR, fetching and decoding (00_scope.md R12), the host's loading (70_reset_and_hazards.md R235), and the shared shapes
of the meanings. There is NO operation for taking an exception or returning from one: the spec describes neither a
trap entry nor a trap return, and a fault is no transfer of control (60_exceptions.md R200, R204, R205; log entry 18).
Every shape reads all it needs from the state before the instruction and then writes (70_reset_and_hazards.md R239).
-/

namespace Sys2Proof.Machine

/-! ## Memories -/

/-- The word listed at an address; none where nothing is listed. -/
def Memory.read : Memory → Nat → Option Word
  | [], _ => none
  | (k, v) :: m, a => if k = a then some v else Memory.read m a

/-- Store a word at an address, keeping the addresses strictly rising. -/
def Memory.write : Memory → Nat → Word → Memory
  | [], a, v => [(a, v)]
  | (k, x) :: m, a, v =>
    if a < k then (a, v) :: (k, x) :: m
    else if a = k then (a, v) :: m
    else (k, x) :: Memory.write m a v

/-- The canonical form: addresses strictly rising and inside the 16 bit address space (20_memory.md R50). An unlisted
address reads as no value, so no entry can equal what an unlisted address reads as. -/
abbrev Memory.wf (m : Memory) : Prop := m.Pairwise (fun x y => x.1 < y.1) ∧ ∀ x ∈ m, x.1 < 65536

/-- Store consecutive words from an address on, the addresses wrapping modulo 2^16. -/
def Memory.writeAll (m : Memory) (base : Word) : List Word → Memory
  | [] => m
  | v :: vs => Memory.writeAll (m.write base.toNat v) (base + 1#16) vs

/-- IMEM[a]: the word of the program image, none outside it (10_state.md R37). -/
def State.codeWord (s : State) (a : Word) : Option Word := s.imem.read a.toNat

/-- Is an address inside the loaded program image (20_memory.md R57, R58)? -/
def State.inImage (s : State) (a : Word) : Bool := (s.codeWord a).isSome

/-- DMEM_VALID(a): does the data address hold a memory cell (20_memory.md R55)? -/
def State.dmemValid (s : State) (a : Word) : Bool :=
  s.params.dmemHoles.all (fun hole => decide (a.toNat < hole.1 ∨ hole.2 < a.toNat))

/-- DMEM[a]: the data word at an address, none where nothing was loaded or stored. With UNIFIED_MEMORY = true the two
memories are one array, so an address inside the image gives the program's word (20_memory.md R59; log entry 12). -/
def State.dataWord (s : State) (a : Word) : Option Word :=
  if s.params.unifiedMemory && s.inImage a then s.codeWord a else s.dmem.read a.toNat

/-- `IFetch(a)` (20_memory.md R58). -/
def State.iFetch (s : State) (a : Word) : Except Fault Word :=
  match s.codeWord a with
  | some w => .ok w
  | none => .error (.readOfUnwrittenState (.imem a))

/-- `MemRead(a, 1)` (20_memory.md R56). -/
def State.memRead (s : State) (a : Word) : Except Fault Word :=
  if s.dmemValid a then
    match s.dataWord a with
    | some v => .ok v
    | none => .error (.readOfUnwrittenState (.dmem a))
  else .error (.invalidDataAddress a)

/-- `MemWrite(a, 1, v)` (20_memory.md R57). -/
def State.memWrite (s : State) (a v : Word) : Except Fault State :=
  if s.dmemValid a then
    if s.params.unifiedMemory && s.inImage a then .error (.storeToCode a)
    else .ok { s with dmem := s.dmem.write a.toNat v }
  else .error (.invalidDataAddress a)

/-! ## The pc, the PSR, the free values -/

/-- `pc <- t` (00_scope.md R10). -/
def State.goto (s : State) (t : Word) : State := { s with pc := t }

/-- `pc <- (pc + 1) mod 2^16`, what every rule that assigns no pc implies (10_state.md R24). -/
def State.advance (s : State) : State := s.goto s.nextPc

/-- Replace the PSR. -/
def State.setPsr (s : State) (p : Psr) : State := { s with psr := p }

/-- The free value of the next draw (10_state.md R34). -/
def State.nextDraw (s : State) : Nibble := Config.reservedPsrBits s.draws

/-- Count a draw, so that the next one is fresh (10_state.md R34). -/
def State.countDraw (s : State) : State := { s with draws := s.draws + 1 }

/-- Suspend program execution (46_system.md R193). -/
def State.suspend (s : State) : State := { s with waiting := true }

/-! ## Fetching and decoding -/

/-- The instruction at the pc, or the fault that the fetch or the decoding raises (00_scope.md R12; 30_encoding.md R85,
R88). -/
def State.fetchInstr (s : State) : Except Fault Instr :=
  match s.iFetch s.pc with
  | .error f => .error f
  | .ok w =>
    match decodeFor s.params.profile w with
    | .ok i => .ok i
    | .error _ => .error (.illegalInstruction w)

/-! ## What the host does before a run -/

/-- The host loads consecutive words of the program image (70_reset_and_hazards.md R235). -/
def State.loadCode (s : State) (base : Word) (ws : List Word) : State := { s with imem := s.imem.writeAll base ws }

/-- The host loads consecutive words of the data image (70_reset_and_hazards.md R235). -/
def State.loadData (s : State) (base : Word) (ws : List Word) : State := { s with dmem := s.dmem.writeAll base ws }

/-! ## The shapes of the meanings -/

/-- Write a register, then go on to the next word. -/
def writeBack (rdest : RegIx) (v : Word) (s : State) : Result := .next (s.writeReg rdest v).advance

/-- Add to the destination and set C and F (40_arithmetic.md R101, R102). -/
def addWithFlags (rdest : RegIx) (b : Word) (c : Bool) (s : State) : Result :=
  .next (((s.writeReg rdest (addValue (s.readReg rdest) b c)).setPsr (addFlags (s.readReg rdest) b c s.psr)).advance)

/-- Subtract from the destination and set C and F (40_arithmetic.md R101, R110). -/
def subWithFlags (rdest : RegIx) (b : Word) (c : Bool) (s : State) : Result :=
  .next (((s.writeReg rdest (subValue (s.readReg rdest) b c)).setPsr (subFlags (s.readReg rdest) b c s.psr)).advance)

/-- Compare with the destination register and set Z, L and N; no register is written (40_arithmetic.md R114). -/
def compareWith (rdest : RegIx) (b : Word) (s : State) : Result :=
  .next (s.setPsr (cmpFlags (s.readReg rdest) b s.psr)).advance

/-- Shift the destination by an amount, or fault where the amount is out of range (42_shift_lui.md R135, R140). -/
def shiftBy (shift : Word → Int → Word) (rdest : RegIx) (n : Int) (s : State) : Result :=
  if amountInRange n then writeBack rdest (shift (s.readReg rdest) n) s else .fault (.shiftAmountOutOfRange n)

/-- Copy a bit of a register to F, or fault where the offset is out of range (45_bit_psr.md R175, R177). -/
def testBit (rsrc : RegIx) (k : Nat) (s : State) : Result :=
  if offsetInRange k then .next (s.setPsr (testBitFlags (s.readReg rsrc) k s.psr)).advance
  else .fault (.bitOffsetOutOfRange k)

/-- Go to a target if the condition holds, else to the next word (44_control.md R163, R164). -/
def jumpIf (cond : Cond) (target : Word) (s : State) : Result :=
  .next (if condHolds s.psr cond then s.goto target else s.advance)

/-- Run `act` if Rproc names the PSR, else fault (45_bit_psr.md R180). -/
def withPsrNumber (rproc : Fin 16) (s : State) (act : State → Result) : Result :=
  if rproc = s.params.psrRproc then act s else .fault (.unknownProcessorRegister rproc)

end Sys2Proof.Machine
end

