-- ==== Sys2Proof/Machine/Arithmetic.lean ====
section
/-!
DEFINITION. The meanings of rows 1 to 14: ADD, ADDI, ADDU, ADDUI, ADDC, ADDCI, MUL, MULI, SUB, SUBI, SUBC, SUBCI, CMP,
CMPI (40_arithmetic.md).
-/

namespace Sys2Proof.Machine

/-- ADD Rsrc, Rdest (40_arithmetic.md R102). -/
def execAdd (rdest rsrc : RegIx) (s : State) : Result :=
  addWithFlags rdest (s.readReg rsrc) false s

/-- ADDI Imm, Rdest (40_arithmetic.md R103). -/
def execAddi (rdest : RegIx) (imm : BitVec 8) (s : State) : Result :=
  addWithFlags rdest (sext8 imm) false s

/-- ADDU Rsrc, Rdest: no flag (40_arithmetic.md R104). -/
def execAddu (rdest rsrc : RegIx) (s : State) : Result :=
  writeBack rdest (addValue (s.readReg rdest) (s.readReg rsrc) false) s

/-- ADDUI Imm, Rdest: the immediate is sign extended, no flag (40_arithmetic.md R105). -/
def execAddui (rdest : RegIx) (imm : BitVec 8) (s : State) : Result :=
  writeBack rdest (addValue (s.readReg rdest) (sext8 imm) false) s

/-- ADDC Rsrc, Rdest: the C before the instruction is added in (40_arithmetic.md R106). -/
def execAddc (rdest rsrc : RegIx) (s : State) : Result :=
  addWithFlags rdest (s.readReg rsrc) s.psr.c s

/-- ADDCI Imm, Rdest (40_arithmetic.md R107). -/
def execAddci (rdest : RegIx) (imm : BitVec 8) (s : State) : Result :=
  addWithFlags rdest (sext8 imm) s.psr.c s

/-- MUL Rsrc, Rdest: the low 16 bits of the product, no flag (40_arithmetic.md R108). -/
def execMul (rdest rsrc : RegIx) (s : State) : Result :=
  writeBack rdest (mulValue (s.readReg rdest) (s.readReg rsrc)) s

/-- MULI Imm, Rdest (40_arithmetic.md R109). -/
def execMuli (rdest : RegIx) (imm : BitVec 8) (s : State) : Result :=
  writeBack rdest (mulValue (s.readReg rdest) (sext8 imm)) s

/-- SUB Rsrc, Rdest: Rdest is the minuend (40_arithmetic.md R110). -/
def execSub (rdest rsrc : RegIx) (s : State) : Result :=
  subWithFlags rdest (s.readReg rsrc) false s

/-- SUBI Imm, Rdest (40_arithmetic.md R111). -/
def execSubi (rdest : RegIx) (imm : BitVec 8) (s : State) : Result :=
  subWithFlags rdest (sext8 imm) false s

/-- SUBC Rsrc, Rdest: the C before the instruction is subtracted too (40_arithmetic.md R112). -/
def execSubc (rdest rsrc : RegIx) (s : State) : Result :=
  subWithFlags rdest (s.readReg rsrc) s.psr.c s

/-- SUBCI Imm, Rdest (40_arithmetic.md R113). -/
def execSubci (rdest : RegIx) (imm : BitVec 8) (s : State) : Result :=
  subWithFlags rdest (sext8 imm) s.psr.c s

/-- CMP Rsrc, Rdest (40_arithmetic.md R114). -/
def execCmp (rdest rsrc : RegIx) (s : State) : Result :=
  compareWith rdest (s.readReg rsrc) s

/-- CMPI Imm, Rdest (40_arithmetic.md R115). -/
def execCmpi (rdest : RegIx) (imm : BitVec 8) (s : State) : Result :=
  compareWith rdest (sext8 imm) s

end Sys2Proof.Machine
end

