-- ==== Sys2Proof/Machine/BitPsr.lean ====
section
/-!
DEFINITION. The meanings of rows 36 to 39: TBIT, TBITI, LPR, SPR (45_bit_psr.md). No instruction needs a privilege
(60_exceptions.md R206).
-/

namespace Sys2Proof.Machine

/-- TBIT Roffset, Rsrc (45_bit_psr.md R175). -/
def execTbit (rsrc roffset : RegIx) (s : State) : Result :=
  testBit rsrc (registerOffset (s.readReg roffset)) s

/-- TBITI Imm, Rsrc: every offset is in range (45_bit_psr.md R176). -/
def execTbiti (rsrc : RegIx) (offset : Fin 16) (s : State) : Result :=
  testBit rsrc offset.val s

/-- LPR Rsrc, Rproc: load the nine fields of the PSR (45_bit_psr.md R178). -/
def execLpr (rsrc : RegIx) (rproc : Fin 16) (s : State) : Result :=
  withPsrNumber rproc s fun s => .next (s.setPsr (Psr.ofWord (s.readReg rsrc))).advance

/-- SPR Rproc, Rdest: the image of the PSR, a fresh free value in bits 15 to 12 (45_bit_psr.md R179). -/
def execSpr (rproc : Fin 16) (rdest : RegIx) (s : State) : Result :=
  withPsrNumber rproc s fun s => writeBack rdest (Psr.image s.nextDraw s.psr) s.countDraw

end Sys2Proof.Machine
end

