-- ==== Sys2Proof/Machine/Control.lean ====
section
/-!
DEFINITION. The meanings of rows 32 to 35: Scond, Bcond, Jcond, JAL (44_control.md). There is no delay slot (R167).
-/

namespace Sys2Proof.Machine

/-- Scond Rdest: all 16 bits are written, 1 or 0 (44_control.md R162). -/
def execScond (rdest : RegIx) (cond : Cond) (s : State) : Result :=
  writeBack rdest (if condHolds s.psr cond then 0x0001#16 else 0x0000#16) s

/-- Bcond disp (44_control.md R163). -/
def execBcond (cond : Cond) (disp : BitVec 8) (s : State) : Result :=
  jumpIf cond (s.branchTarget disp) s

/-- Jcond Rtarget (44_control.md R164). -/
def execJcond (cond : Cond) (rtarget : RegIx) (s : State) : Result :=
  jumpIf cond (s.readReg rtarget) s

/-- JAL Rlink, Rtarget: the target is read before the link is written (44_control.md R165). -/
def execJal (rlink rtarget : RegIx) (s : State) : Result :=
  .next ((s.writeReg rlink s.nextPc).goto (s.readReg rtarget))

end Sys2Proof.Machine
end

