-- ==== Sys2Proof/Machine/Logical.lean ====
section
/-!
DEFINITION. The meanings of rows 15 to 22: AND, ANDI, OR, ORI, XOR, XORI, MOV, MOVI (41_logical_move.md). No flag is
read or written (R128).
-/

namespace Sys2Proof.Machine

/-- AND Rsrc, Rdest (41_logical_move.md R120). -/
def execAnd (rdest rsrc : RegIx) (s : State) : Result :=
  writeBack rdest (s.readReg rdest &&& s.readReg rsrc) s

/-- ANDI Imm, Rdest: the immediate is zero extended (41_logical_move.md R121). -/
def execAndi (rdest : RegIx) (imm : BitVec 8) (s : State) : Result :=
  writeBack rdest (s.readReg rdest &&& zext8 imm) s

/-- OR Rsrc, Rdest (41_logical_move.md R122). -/
def execOr (rdest rsrc : RegIx) (s : State) : Result :=
  writeBack rdest (s.readReg rdest ||| s.readReg rsrc) s

/-- ORI Imm, Rdest: the immediate is zero extended (41_logical_move.md R123). -/
def execOri (rdest : RegIx) (imm : BitVec 8) (s : State) : Result :=
  writeBack rdest (s.readReg rdest ||| zext8 imm) s

/-- XOR Rsrc, Rdest (41_logical_move.md R124). -/
def execXor (rdest rsrc : RegIx) (s : State) : Result :=
  writeBack rdest (s.readReg rdest ^^^ s.readReg rsrc) s

/-- XORI Imm, Rdest: the immediate is zero extended (41_logical_move.md R125). -/
def execXori (rdest : RegIx) (imm : BitVec 8) (s : State) : Result :=
  writeBack rdest (s.readReg rdest ^^^ zext8 imm) s

/-- MOV Rsrc, Rdest (41_logical_move.md R126). -/
def execMov (rdest rsrc : RegIx) (s : State) : Result :=
  writeBack rdest (s.readReg rsrc) s

/-- MOVI Imm, Rdest: the immediate is zero extended (41_logical_move.md R127). -/
def execMovi (rdest : RegIx) (imm : BitVec 8) (s : State) : Result :=
  writeBack rdest (zext8 imm) s

end Sys2Proof.Machine
end

