-- ==== Sys2Proof/Machine/MemoryExtend.lean ====
section
/-!
DEFINITION. The meanings of rows 28 to 31: LOAD, STOR, SNXB, ZRXB (43_memory_extend.md).
-/

namespace Sys2Proof.Machine

/-- LOAD Rdest, Raddr (43_memory_extend.md R150). -/
def execLoad (rdest raddr : RegIx) (s : State) : Result :=
  match s.memRead (s.readReg raddr) with
  | .ok v => writeBack rdest v s
  | .error f => .fault f

/-- STOR Rsrc, Raddr: the value in Rsrc is stored, no register is written (43_memory_extend.md R151). -/
def execStor (rsrc raddr : RegIx) (s : State) : Result :=
  match s.memWrite (s.readReg raddr) (s.readReg rsrc) with
  | .ok t => .next t.advance
  | .error f => .fault f

/-- SNXB Rsrc, Rdest (43_memory_extend.md R153). -/
def execSnxb (rdest rsrc : RegIx) (s : State) : Result :=
  writeBack rdest (sext8 (lowByte (s.readReg rsrc))) s

/-- ZRXB Rsrc, Rdest (43_memory_extend.md R154). -/
def execZrxb (rdest rsrc : RegIx) (s : State) : Result :=
  writeBack rdest (zext8 (lowByte (s.readReg rsrc))) s

end Sys2Proof.Machine
end

