-- ==== Sys2Proof/Machine/Shift.lean ====
section
/-!
DEFINITION. The meanings of rows 23 to 27: LSH, LSHI, ASHU, ASHUI, LUI (42_shift_lui.md).
-/

namespace Sys2Proof.Machine

/-- LSH Ramount, Rdest (42_shift_lui.md R136). -/
def execLsh (rdest ramount : RegIx) (s : State) : Result :=
  shiftBy logicalShift rdest (registerAmount (s.readReg ramount)) s

/-- LSHI Imm, Rdest (42_shift_lui.md R137). -/
def execLshi (rdest : RegIx) (amount : BitVec 5) (s : State) : Result :=
  shiftBy logicalShift rdest (immediateAmount amount) s

/-- ASHU Ramount, Rdest: no flag (42_shift_lui.md R138). -/
def execAshu (rdest ramount : RegIx) (s : State) : Result :=
  shiftBy arithmeticShift rdest (registerAmount (s.readReg ramount)) s

/-- ASHUI Imm, Rdest (42_shift_lui.md R139). -/
def execAshui (rdest : RegIx) (amount : BitVec 5) (s : State) : Result :=
  shiftBy arithmeticShift rdest (immediateAmount amount) s

/-- LUI Imm, Rdest: the low byte becomes 0 (42_shift_lui.md R142). -/
def execLui (rdest : RegIx) (imm : BitVec 8) (s : State) : Result :=
  writeBack rdest (upperImmediate imm) s

end Sys2Proof.Machine
end

