-- ==== Sys2Proof/Machine/System.lean ====
section
/-!
DEFINITION. The meanings of rows 40 to 44: DI, EI, EXCP, RETX, WAIT (46_system.md). The first four are refused: "the spec
therefore decodes all four and refuses them" (R185).
-/

namespace Sys2Proof.Machine

/-- DI: the spec gives it an encoding and no effect (46_system.md R185, R186). -/
def execDi (_s : State) : Result :=
  .refused (.unmodelled .di)

/-- EI: the spec gives it an encoding and no effect (46_system.md R185, R187). -/
def execEi (_s : State) : Result :=
  .refused (.unmodelled .ei)

/-- EXCP vector: the vector is reported, not used (46_system.md R185, R188). -/
def execExcp (vector : Fin 16) (_s : State) : Result :=
  .refused (.unmodelled (.excp vector))

/-- RETX: the spec gives it an encoding and no effect (46_system.md R185, R189). -/
def execRetx (_s : State) : Result :=
  .refused (.unmodelled .retx)

/-- WAIT: the pc stays at the WAIT (46_system.md R193; 10_state.md R24, R39). -/
def execWait (s : State) : Result :=
  .next s.suspend

end Sys2Proof.Machine
end

