-- ==== Sys2Proof/Machine/Dispatch.lean ====
section
/-!
DEFINITION. One arm per instruction, in the order of spec/opcode_table.json (30_encoding.md R73).
-/

namespace Sys2Proof.Machine

def exec (i : Instr) (s : State) : Host.Outcome State Fault Refusal :=
  match i with
  | .add rdest rsrc => Sys2Proof.Machine.execAdd rdest rsrc s
  | .addi rdest imm => Sys2Proof.Machine.execAddi rdest imm s
  | .addu rdest rsrc => Sys2Proof.Machine.execAddu rdest rsrc s
  | .addui rdest imm => Sys2Proof.Machine.execAddui rdest imm s
  | .addc rdest rsrc => Sys2Proof.Machine.execAddc rdest rsrc s
  | .addci rdest imm => Sys2Proof.Machine.execAddci rdest imm s
  | .mul rdest rsrc => Sys2Proof.Machine.execMul rdest rsrc s
  | .muli rdest imm => Sys2Proof.Machine.execMuli rdest imm s
  | .sub rdest rsrc => Sys2Proof.Machine.execSub rdest rsrc s
  | .subi rdest imm => Sys2Proof.Machine.execSubi rdest imm s
  | .subc rdest rsrc => Sys2Proof.Machine.execSubc rdest rsrc s
  | .subci rdest imm => Sys2Proof.Machine.execSubci rdest imm s
  | .cmp rdest rsrc => Sys2Proof.Machine.execCmp rdest rsrc s
  | .cmpi rdest imm => Sys2Proof.Machine.execCmpi rdest imm s
  | .and rdest rsrc => Sys2Proof.Machine.execAnd rdest rsrc s
  | .andi rdest imm => Sys2Proof.Machine.execAndi rdest imm s
  | .or rdest rsrc => Sys2Proof.Machine.execOr rdest rsrc s
  | .ori rdest imm => Sys2Proof.Machine.execOri rdest imm s
  | .xor rdest rsrc => Sys2Proof.Machine.execXor rdest rsrc s
  | .xori rdest imm => Sys2Proof.Machine.execXori rdest imm s
  | .mov rdest rsrc => Sys2Proof.Machine.execMov rdest rsrc s
  | .movi rdest imm => Sys2Proof.Machine.execMovi rdest imm s
  | .lsh rdest ramount => Sys2Proof.Machine.execLsh rdest ramount s
  | .lshi rdest amount => Sys2Proof.Machine.execLshi rdest amount s
  | .ashu rdest ramount => Sys2Proof.Machine.execAshu rdest ramount s
  | .ashui rdest amount => Sys2Proof.Machine.execAshui rdest amount s
  | .lui rdest imm => Sys2Proof.Machine.execLui rdest imm s
  | .load rdest raddr => Sys2Proof.Machine.execLoad rdest raddr s
  | .stor rsrc raddr => Sys2Proof.Machine.execStor rsrc raddr s
  | .snxb rdest rsrc => Sys2Proof.Machine.execSnxb rdest rsrc s
  | .zrxb rdest rsrc => Sys2Proof.Machine.execZrxb rdest rsrc s
  | .scond rdest cond => Sys2Proof.Machine.execScond rdest cond s
  | .bcond cond disp => Sys2Proof.Machine.execBcond cond disp s
  | .jcond cond rtarget => Sys2Proof.Machine.execJcond cond rtarget s
  | .jal rlink rtarget => Sys2Proof.Machine.execJal rlink rtarget s
  | .tbit rsrc roffset => Sys2Proof.Machine.execTbit rsrc roffset s
  | .tbiti rsrc offset => Sys2Proof.Machine.execTbiti rsrc offset s
  | .lpr rsrc rproc => Sys2Proof.Machine.execLpr rsrc rproc s
  | .spr rproc rdest => Sys2Proof.Machine.execSpr rproc rdest s
  | .di => Sys2Proof.Machine.execDi s
  | .ei => Sys2Proof.Machine.execEi s
  | .excp vector => Sys2Proof.Machine.execExcp vector s
  | .retx => Sys2Proof.Machine.execRetx s
  | .wait => Sys2Proof.Machine.execWait s

end Sys2Proof.Machine
end

