-- ==== Sys2Proof/Machine/Step.lean ====
section
/-!
DEFINITION. One step of the machine (00_scope.md R12), and placing an instruction where the next step fetches it.
-/

namespace Sys2Proof.Machine

/-- One step (00_scope.md R12). While `waiting` is set nothing is fetched and the state is its own only successor
(46_system.md R193; log entry 9); otherwise the instruction at the pc is fetched, decoded and executed, and it is its
rule that moves the pc (10_state.md R24). -/
def step (s : State) : Host.Outcome State Fault Refusal :=
  if s.waiting then .next s
  else
    match s.fetchInstr with
    | .ok i => exec i s
    | .error f => .fault f

/-- The state with an instruction placed at the pc, as the host loads a program (70_reset_and_hazards.md R235), and not
waiting, so that the next step fetches and runs it (log entry 10). -/
def State.withFetchWord (s : State) (nbits w : Nat) : State :=
  { s.loadCode s.pc [tableWord nbits w] with waiting := false }

end Sys2Proof.Machine
end

