-- ==== Sys2Proof/Safety.lean ====
section
/-!
DEFINITION. The words that claims about the machine use: the invariant of every reachable state, how a run can end
(60_exceptions.md R214), what an instruction leaves unchanged, and the spec's tables of what an instruction may write
(10_state.md R35; 30_encoding.md R73).
-/

namespace Sys2Proof.Machine

/-! ## Runs -/

/-- Both memories are in canonical form. -/
def State.Inv (s : State) : Prop := s.imem.wf ∧ s.dmem.wf

/-- The run has ended normally: WAIT was executed (60_exceptions.md R214 (a)). -/
def State.Halted (s : State) : Prop := s.waiting = true

/-- The machine after `n` steps, if none of them faulted or was refused (60_exceptions.md R214). -/
def runs (n : Nat) (s t : State) : Prop := Sys2Proof.core.run n s = .next t

/-- A safe run: the first `n` steps neither fault nor are refused. -/
def SafeFor (n : Nat) (s : State) : Prop := ∃ t, runs n s t

/-! ## Frames -/

/-- Every word of the data memory and of the instruction memory reads as before. -/
structure SameMemory (s t : State) : Prop where
  data : ∀ a : Word, t.dataWord a = s.dataWord a
  code : ∀ a : Word, t.codeWord a = s.codeWord a

/-- Every general register reads as before. -/
def SameRegs (s t : State) : Prop := ∀ q : RegIx, t.readReg q = s.readReg q

/-- Every general register but `r` reads as before, and `r` reads `v`. -/
structure OnlyRegWritten (s t : State) (r : RegIx) (v : Word) : Prop where
  value : t.readReg r = v
  others : ∀ q : RegIx, q ≠ r → t.readReg q = s.readReg q

/-- `waiting` and the model's own fields are as before. -/
structure SameControl (s t : State) : Prop where
  waiting : t.waiting = s.waiting
  params : t.params = s.params
  draws : t.draws = s.draws

/-- From `s` to `t` register `r` came to hold `v`, the PSR became `p`, the pc went on to the next word, and nothing else
changed. -/
structure RegResult (s t : State) (r : RegIx) (v : Word) (p : Psr) : Prop where
  regs : OnlyRegWritten s t r v
  psr : t.psr = p
  pc : t.pc = s.pc + 1#16
  memory : SameMemory s t
  control : SameControl s t

/-- From `s` to `t` the PSR became `p`, the pc went on to the next word, and nothing else changed. -/
structure PsrResult (s t : State) (p : Psr) : Prop where
  regs : SameRegs s t
  psr : t.psr = p
  pc : t.pc = s.pc + 1#16
  memory : SameMemory s t
  control : SameControl s t

/-- From `s` to `t` the pc became `target` and nothing else changed. -/
structure PcResult (s t : State) (target : Word) : Prop where
  regs : SameRegs s t
  psr : t.psr = s.psr
  pc : t.pc = target
  memory : SameMemory s t
  control : SameControl s t

/-! ## The spec's tables of effects -/

/-- The PSR fields an instruction may write, as a mask on the PSR's 16 bit image (10_state.md R26, R35). -/
def psrWritten : Instr → Word
  | .add .. | .addi .. | .sub .. | .subi .. | .addc .. | .addci .. | .subc .. | .subci .. => 0x0021#16
  | .cmp .. | .cmpi .. => 0x00C4#16
  | .tbit .. | .tbiti .. => 0x0020#16
  | .lpr .. => 0x0EE7#16
  | .addu .. | .addui .. | .mul .. | .muli .. => 0x0000#16
  | .and .. | .andi .. | .or .. | .ori .. | .xor .. | .xori .. | .mov .. | .movi .. => 0x0000#16
  | .lsh .. | .lshi .. | .lui .. | .load .. | .stor .. | .jal .. => 0x0000#16
  | .ashu .. | .ashui .. | .snxb .. | .zrxb .. | .spr .. => 0x0000#16
  | .scond .. | .bcond .. | .jcond .. => 0x0000#16
  | .di | .ei | .excp .. | .retx | .wait => 0x0000#16

/-- The general register an instruction writes, the column "writes" of 30_encoding.md R73. -/
def regWritten : Instr → Option RegIx
  | .add r _ | .addu r _ | .addc r _ | .mul r _ | .sub r _ | .subc r _ => some r
  | .addi r _ | .addui r _ | .addci r _ | .muli r _ | .subi r _ | .subci r _ => some r
  | .cmp .. | .cmpi .. => none
  | .and r _ | .or r _ | .xor r _ | .mov r _ => some r
  | .andi r _ | .ori r _ | .xori r _ | .movi r _ => some r
  | .lsh r _ | .ashu r _ => some r
  | .lshi r _ | .ashui r _ => some r
  | .lui r _ => some r
  | .load r _ | .snxb r _ | .zrxb r _ => some r
  | .stor .. => none
  | .scond r _ => some r
  | .bcond .. | .jcond .. => none
  | .jal r _ => some r
  | .tbit .. | .tbiti .. | .lpr .. => none
  | .spr _ r => some r
  | .di | .ei | .excp .. | .retx | .wait => none

/-- Is the instruction one whose rule moves the pc itself: Bcond, Jcond, JAL or WAIT (10_state.md R24)? -/
def movesPc : Instr → Bool
  | .bcond .. | .jcond .. | .jal .. | .wait => true
  | .add .. | .addi .. | .addu .. | .addui .. | .addc .. | .addci .. | .mul .. | .muli .. => false
  | .sub .. | .subi .. | .subc .. | .subci .. | .cmp .. | .cmpi .. => false
  | .and .. | .andi .. | .or .. | .ori .. | .xor .. | .xori .. | .mov .. | .movi .. => false
  | .lsh .. | .lshi .. | .ashu .. | .ashui .. | .lui .. => false
  | .load .. | .stor .. | .snxb .. | .zrxb .. | .scond .. => false
  | .tbit .. | .tbiti .. | .lpr .. | .spr .. | .di | .ei | .excp .. | .retx => false

/-- Does the instruction access the data memory (20_memory.md R53)? -/
def accessesData : Instr → Bool
  | .load .. | .stor .. => true
  | .add .. | .addi .. | .addu .. | .addui .. | .addc .. | .addci .. | .mul .. | .muli .. => false
  | .sub .. | .subi .. | .subc .. | .subci .. | .cmp .. | .cmpi .. => false
  | .and .. | .andi .. | .or .. | .ori .. | .xor .. | .xori .. | .mov .. | .movi .. => false
  | .lsh .. | .lshi .. | .ashu .. | .ashui .. | .lui .. | .snxb .. | .zrxb .. => false
  | .scond .. | .bcond .. | .jcond .. | .jal .. | .wait => false
  | .tbit .. | .tbiti .. | .lpr .. | .spr .. | .di | .ei | .excp .. | .retx => false

/-- The instruction a reason of `Refusal.unmodelled` names (46_system.md R195). -/
def EncodingOnly.instr : EncodingOnly → Instr
  | .di => .di
  | .ei => .ei
  | .excp vector => .excp vector
  | .retx => .retx

end Sys2Proof.Machine
end

