-- ==== Sys2Proof/Certificates/Slice0/Obligations.lean ====
section
/-!
DEFINITION. The statements for the provers, from the numbered rules of spec/. `u(v)` is `v.toNat`, `s(v)` is `v.toInt`
(00_scope.md R9). A statement about what an instruction does says that `exec` answers a next state and what that state
holds, its frame included (`RegResult`, `PsrResult`, `PcResult` of Safety.lean). Every statement holds for every value of
the open parameters, of the registers, of the PSR and of the free values: none rests on a value of the reset state that
the spec does not give.
-/

open Sys2Proof Sys2Proof.Machine

/-! ## Decoding and encoding (30_encoding.md) -/

/-- 30_encoding.md R73, R85: the decoder reads every instruction, with every operand, back from its word. -/
def Obligations.DecodeInvertsEncode : Prop := ∀ i : Instr, decode (encode i) = .ok i

/-- 30_encoding.md R73, R85: a word that decodes is the word of its instruction, so no bit of it is ignored. -/
def Obligations.EncodeInvertsDecode : Prop := ∀ (w : Word) (i : Instr), decode w = .ok i → encode i = w

/-- 30_encoding.md R86: the words rejected as unused opcodes are those of the eight rows of the source's list. -/
def Obligations.UnusedOpcodesAreThoseListed : Prop :=
  ∀ w : Word, decode w = .error .unusedOpcode ↔
    (w.extractLsb' 12 4 = 0b0000#4 ∧ w.extractLsb' 4 4 ∈ [0b0100#4, 0b1000#4, 0b1100#4, 0b1111#4]) ∨
    (w.extractLsb' 12 4 = 0b0100#4 ∧ w.extractLsb' 4 4 = 0b1111#4) ∨
    (w.extractLsb' 12 4 = 0b1000#4 ∧ (w.extractLsb' 4 4 ∈ [0b0101#4, 0b0111#4] ∨ w.getLsbD 7 = true))

/-- 30_encoding.md R87 (the spec's decision D10): the other rejected words are those with a non-zero constant nibble in
WAIT, DI, EI, RETX or EXCP. -/
def Obligations.ConstantNibblesAreRequired : Prop :=
  ∀ w : Word, decode w = .error .constantNibble ↔
    (w.extractLsb' 12 4 = 0b0000#4 ∧ w.extractLsb' 4 4 = 0b0000#4 ∧ w ≠ 0x0000#16) ∨
    (w.extractLsb' 12 4 = 0b0100#4 ∧ w.extractLsb' 4 4 = 0b0011#4 ∧ w ≠ 0x4030#16) ∨
    (w.extractLsb' 12 4 = 0b0100#4 ∧ w.extractLsb' 4 4 = 0b0111#4 ∧ w ≠ 0x4070#16) ∨
    (w.extractLsb' 12 4 = 0b0100#4 ∧ w.extractLsb' 4 4 = 0b1001#4 ∧ w ≠ 0x4090#16) ∨
    (w.extractLsb' 12 4 = 0b0100#4 ∧ w.extractLsb' 4 4 = 0b1011#4 ∧ w.extractLsb' 8 4 ≠ 0b0000#4)

/-- 30_encoding.md R73, R85, 00_scope.md R2 (the spec's decision D2; log entry 11): with PROFILE = full every decoded
instruction is kept. With PROFILE = baseline exactly the words of the 22 rows marked `*` in R73 are instructions, the same
ones as with PROFILE = full; their op and ext fields are written out, one line for each group, the Register, immediate,
Special and Shift instructions. -/
def Obligations.ProfileSelectsBaselineWords : Prop :=
  ∀ w : Word, decodeFor .full w = decode w ∧
    ∀ i : Instr, decodeFor .baseline w = .ok i ↔ decode w = .ok i ∧
      ((w.extractLsb' 12 4 = 0b0000#4 ∧
          w.extractLsb' 4 4 ∈ [0b0001#4, 0b0010#4, 0b0011#4, 0b0101#4, 0b1001#4, 0b1011#4, 0b1101#4]) ∨
        w.extractLsb' 12 4 ∈
          [0b0001#4, 0b0010#4, 0b0011#4, 0b0101#4, 0b1001#4, 0b1011#4, 0b1100#4, 0b1101#4, 0b1111#4] ∨
        (w.extractLsb' 12 4 = 0b0100#4 ∧ w.extractLsb' 4 4 ∈ [0b0000#4, 0b0100#4, 0b1000#4, 0b1100#4]) ∨
        (w.extractLsb' 12 4 = 0b1000#4 ∧ w.extractLsb' 4 4 ∈ [0b0000#4, 0b0001#4, 0b0100#4]))

/-- 30_encoding.md R73: words written out from the instruction list, one of each format, decode to their instructions. -/
def Obligations.ListedWordsDecode : Prop :=
  decode 0b0000001001010001#16 = .ok (.add 2 1) ∧
  decode 0b0101001011111111#16 = .ok (.addi 2 0xFF#8) ∧
  decode 0b0000000000100000#16 = .ok (.or 0 0) ∧
  decode 0b1000001001000001#16 = .ok (.lsh 2 1) ∧
  decode 0b1000001000011100#16 = .ok (.lshi 2 0b11100#5) ∧
  decode 0b1000001000111000#16 = .ok (.ashui 2 0b11000#5) ∧
  decode 0b0100001001000001#16 = .ok (.stor 2 1) ∧
  decode 0b0100001011011010#16 = .ok (.scond 2 .lo) ∧
  decode 0b1100000111111101#16 = .ok (.bcond .ne 0xFD#8) ∧
  decode 0b0100111011000011#16 = .ok (.jcond .uc 3) ∧
  decode 0b0100111110000011#16 = .ok (.jal 15 3) ∧
  decode 0b0100001000011001#16 = .ok (.lpr 2 9) ∧
  decode 0b0100100101010010#16 = .ok (.spr 9 2) ∧
  decode 0b0100000010110111#16 = .ok (.excp 7) ∧
  decode 0b0000000000000000#16 = .ok .wait

/-! ## The step (00_scope.md R12; 20_memory.md R58) -/

/-- 00_scope.md R12: a step of a machine that is not waiting runs the instruction that the word at the pc decodes to;
nothing else is done around it, its rule moves the pc. -/
def Obligations.StepRunsDecodedInstruction : Prop :=
  ∀ (s : State) (w : Word) (i : Instr), s.waiting = false → s.codeWord s.pc = some w →
    decodeFor s.params.profile w = .ok i → step s = exec i s

/-- 20_memory.md R58: a fetch inside the program image gives its word; outside it, the fetch and with it the step is the
fault ReadOfUnwrittenState(IMEM[a]). -/
def Obligations.FetchOutsideImageFaults : Prop :=
  ∀ (s : State) (a w : Word),
    (s.codeWord a = some w → s.iFetch a = .ok w) ∧
    (s.codeWord a = none → s.iFetch a = .error (.readOfUnwrittenState (.imem a))) ∧
    (s.waiting = false → s.codeWord s.pc = none → step s = .fault (.readOfUnwrittenState (.imem s.pc)))

/-- 30_encoding.md R85, R87, R88 (the spec's decisions D2, D9, D10; log entries 11 and 22): a step at a word that is no
instruction of the profile is the fault IllegalInstruction of that word, be it an unused opcode, a word with a non-zero
constant nibble or, with PROFILE = baseline, the word of another instruction. -/
def Obligations.IllegalWordFaults : Prop :=
  ∀ (s : State) (w : Word) (r : Reject), s.waiting = false → s.codeWord s.pc = some w →
    decodeFor s.params.profile w = .error r → step s = .fault (.illegalInstruction w)

/-- 46_system.md R193, 60_exceptions.md R213 (the spec's decision D16; the self-loop is the model's choice between R193's
two equivalents, log entry 9): a waiting machine stays as it is for any number of steps. -/
def Obligations.WaitingMachineStays : Prop := ∀ (n : Nat) (s : State), s.waiting = true → runs n s s

/-! ## Invariants and whole-machine rules -/

/-- The memories stay in canonical form, from every state in which they are: so equal memories are equal data. -/
def Obligations.StepKeepsCanonicalMemory : Prop := ∀ s t : State, s.Inv → step s = .next t → t.Inv

/-- The state after reset has canonical memories whatever is drawn for what 10_state.md R41 leaves open, and loading a
program and data keeps them so (70_reset_and_hazards.md R235). -/
def Obligations.ResetAndLoadingAreCanonical : Prop :=
  State.reset.Inv ∧
  ∀ (d : ResetDraw) (codeAt dataAt : Word) (program data : List Word),
    (((State.resetFrom d).loadCode codeAt program).loadData dataAt data).Inv

/-- 10_state.md R37, 20_memory.md R64 (the spec's decision D3): along any run the program text is constant, and so are
the parameters; canonical memories stay so. -/
def Obligations.RunKeepsProgramAndCanonicalMemory : Prop :=
  ∀ (n : Nat) (s t : State), runs n s t → t.imem = s.imem ∧ t.params = s.params ∧ (s.Inv → t.Inv)

/-- 10_state.md R41, 70_reset_and_hazards.md R230 (the spec's decision D20): after reset the pc is RESET_PC, 0x0000 in
`State.reset`, nothing waits and nothing is loaded, whatever is drawn for the rest; and `State.reset` has the values of
PROFILE, UNIFIED_MEMORY and DMEM_VALID that 00_scope.md R7 takes (decisions D2 to D4). -/
def Obligations.ResetStartsAtResetPc : Prop :=
  State.reset.pc = 0x0000#16 ∧ State.reset.waiting = false ∧
  (∀ a : Word, State.reset.codeWord a = none ∧ State.reset.dataWord a = none) ∧
  (∀ d : ResetDraw, (State.resetFrom d).pc = d.resetPc ∧ (State.resetFrom d).waiting = false ∧
    (State.resetFrom d).imem = [] ∧ (State.resetFrom d).dmem = []) ∧
  State.reset.params.profile = .full ∧ State.reset.params.unifiedMemory = false ∧
  ∀ a : Word, State.reset.dmemValid a = true

/-- 10_state.md R39 (the spec's decision D16): only WAIT sets `waiting`, and nothing clears it. -/
def Obligations.OnlyWaitSuspends : Prop :=
  ∀ (i : Instr) (s t : State), exec i s = .next t → (t.waiting = true ↔ s.waiting = true ∨ i = .wait)

/-- 10_state.md R35 (with the spec's decisions D7, D8, D25): no instruction changes a PSR bit outside its row of R35's
table, written as a mask on the PSR's image. -/
def Obligations.PsrWritersAreThoseListed : Prop :=
  ∀ (i : Instr) (s t : State), exec i s = .next t →
    (Psr.image 0#4 t.psr ^^^ Psr.image 0#4 s.psr) &&& ~~~psrWritten i = 0#16

/-- 30_encoding.md R73, column "writes": no instruction changes a general register but the one its row names. -/
def Obligations.RegistersWrittenAreThoseListed : Prop :=
  ∀ (i : Instr) (s t : State), exec i s = .next t →
    ∀ q : RegIx, regWritten i ≠ some q → t.readReg q = s.readReg q

/-- 20_memory.md R53, R61: no instruction but STOR changes a data word, and none changes a program word. -/
def Obligations.OnlyStorChangesMemory : Prop :=
  ∀ (i : Instr) (s t : State), exec i s = .next t →
    t.imem = s.imem ∧ ((∀ rsrc raddr : RegIx, i ≠ .stor rsrc raddr) → t.dmem = s.dmem)

/-- 20_memory.md R53: an instruction other than LOAD and STOR does not look at the data memory. With another data memory
it does the same and leaves that one alone. -/
def Obligations.OthersIgnoreDataMemory : Prop :=
  ∀ (i : Instr) (s t : State) (m : Memory), accessesData i = false → exec i s = .next t →
    exec i { s with dmem := m } = .next { t with dmem := m }

/-- 10_state.md R24, R25 (the spec's decision D5): every instruction but Bcond, Jcond, JAL and WAIT goes on to the next
word, modulo 2^16. -/
def Obligations.SequentialPcAdvance : Prop :=
  ∀ (i : Instr) (s t : State), movesPc i = false → exec i s = .next t → t.pc.toNat = (s.pc.toNat + 1) % 65536

/-- 60_exceptions.md R201 (the spec's decisions D3, D4, D11 to D13, D17; for an unwritten data word log entry 7, with
UNIFIED_MEMORY log entry 12): which instructions stop, and exactly when. The two faults left, of the fetch and of the
decoding, are the step's and no instruction's. -/
def Obligations.StopCausesAreThoseListed : Prop :=
  ∀ (i : Instr) (s : State),
    (∀ n : Int, exec i s = .fault (.shiftAmountOutOfRange n) ↔
      (n < -15 ∨ 15 < n) ∧
      ((∃ rd ra, (i = .lsh rd ra ∨ i = .ashu rd ra) ∧ n = (s.readReg ra).toInt) ∨
        (∃ rd amount, (i = .lshi rd amount ∨ i = .ashui rd amount) ∧ n = amount.toInt))) ∧
    (∀ k : Nat, exec i s = .fault (.bitOffsetOutOfRange k) ↔
      15 < k ∧ ∃ rs ro, i = .tbit rs ro ∧ k = (s.readReg ro).toNat) ∧
    (∀ n : Fin 16, exec i s = .fault (.unknownProcessorRegister n) ↔
      n ≠ s.params.psrRproc ∧ ∃ r, i = .lpr r n ∨ i = .spr n r) ∧
    (∀ a : Word, exec i s = .fault (.invalidDataAddress a) ↔
      s.dmemValid a = false ∧ ∃ r ra, (i = .load r ra ∨ i = .stor r ra) ∧ a = s.readReg ra) ∧
    (∀ a : Word, exec i s = .fault (.storeToCode a) ↔
      s.dmemValid a = true ∧ s.params.unifiedMemory = true ∧ s.inImage a = true ∧
        ∃ rs ra, i = .stor rs ra ∧ a = s.readReg ra) ∧
    (∀ a : Word, exec i s = .fault (.readOfUnwrittenState (.dmem a)) ↔
      s.dmemValid a = true ∧ s.dataWord a = none ∧ ∃ rd ra, i = .load rd ra ∧ a = s.readReg ra) ∧
    (∀ w : Word, exec i s ≠ .fault (.illegalInstruction w) ∧
      exec i s ≠ .fault (.readOfUnwrittenState (.imem w))) ∧
    (∀ r : Refusal, exec i s = .refused r ↔ ∃ what, r = .unmodelled what ∧ i = what.instr)

/-! ## Arithmetic (40_arithmetic.md) -/

/-- 40_arithmetic.md R101 to R103 (flags assigned 1 or 0 and only C and F written: the spec's decisions D7, D8): ADD and
ADDI. -/
def Obligations.AddResult : Prop :=
  ∀ (s : State) (rd rs : RegIx) (imm : BitVec 8),
    (∃ t, exec (.add rd rs) s = .next t ∧
      RegResult s t rd (BitVec.ofNat 16 ((s.readReg rd).toNat + (s.readReg rs).toNat))
        { s.psr with
          c := decide ((s.readReg rd).toNat + (s.readReg rs).toNat > 65535)
          f := decide ((s.readReg rd).toInt + (s.readReg rs).toInt < -32768 ∨
            (s.readReg rd).toInt + (s.readReg rs).toInt > 32767) }) ∧
    (∃ t, exec (.addi rd imm) s = .next t ∧
      RegResult s t rd (BitVec.ofNat 16 ((s.readReg rd).toNat + (imm.signExtend 16).toNat))
        { s.psr with
          c := decide ((s.readReg rd).toNat + (imm.signExtend 16).toNat > 65535)
          f := decide ((s.readReg rd).toInt + imm.toInt < -32768 ∨ (s.readReg rd).toInt + imm.toInt > 32767) })

/-- 40_arithmetic.md R104: ADDU, its word, its sum, and a PSR bit for bit what it was. -/
def Obligations.AdduResult : Prop :=
  ∀ (s : State) (rd rs : RegIx),
    decode (BitVec.ofNat 16 (0x0060 + 256 * rd.val + rs.val)) = .ok (.addu rd rs) ∧
    ∃ t, exec (.addu rd rs) s = .next t ∧
      RegResult s t rd (BitVec.ofNat 16 ((s.readReg rd).toNat + (s.readReg rs).toNat)) s.psr

/-- 40_arithmetic.md R105 (no flag: the spec's inference, "the immediate form of ADDU"): ADDUI. -/
def Obligations.AdduiResult : Prop :=
  ∀ (s : State) (rd : RegIx) (imm : BitVec 8),
    ∃ t, exec (.addui rd imm) s = .next t ∧
      RegResult s t rd (BitVec.ofNat 16 ((s.readReg rd).toNat + (imm.signExtend 16).toNat)) s.psr

/-- 40_arithmetic.md R101, R106, R107 (C and F on the three-term sum: the spec's decision D26): ADDC and ADDCI. -/
def Obligations.AddcResult : Prop :=
  ∀ (s : State) (rd rs : RegIx) (imm : BitVec 8),
    (∃ t, exec (.addc rd rs) s = .next t ∧
      RegResult s t rd (BitVec.ofNat 16 ((s.readReg rd).toNat + (s.readReg rs).toNat + s.psr.c.toNat))
        { s.psr with
          c := decide ((s.readReg rd).toNat + (s.readReg rs).toNat + s.psr.c.toNat > 65535)
          f := decide ((s.readReg rd).toInt + (s.readReg rs).toInt + s.psr.c.toNat < -32768 ∨
            (s.readReg rd).toInt + (s.readReg rs).toInt + s.psr.c.toNat > 32767) }) ∧
    (∃ t, exec (.addci rd imm) s = .next t ∧
      RegResult s t rd (BitVec.ofNat 16 ((s.readReg rd).toNat + (imm.signExtend 16).toNat + s.psr.c.toNat))
        { s.psr with
          c := decide ((s.readReg rd).toNat + (imm.signExtend 16).toNat + s.psr.c.toNat > 65535)
          f := decide ((s.readReg rd).toInt + imm.toInt + s.psr.c.toNat < -32768 ∨
            (s.readReg rd).toInt + imm.toInt + s.psr.c.toNat > 32767) })

/-- 40_arithmetic.md R108: MUL keeps the low 16 bits of the product, and they are the same for the signed and for the
unsigned reading (the spec's inference); no flag is affected. -/
def Obligations.MulResult : Prop :=
  ∀ (s : State) (rd rs : RegIx),
    ∃ t, exec (.mul rd rs) s = .next t ∧
      RegResult s t rd (BitVec.ofNat 16 ((s.readReg rd).toNat * (s.readReg rs).toNat)) s.psr ∧
      t.readReg rd = BitVec.ofInt 16 ((s.readReg rd).toInt * (s.readReg rs).toInt)

/-- 40_arithmetic.md R109: MULI, its word and its product with the sign-extended immediate; -1 negates. -/
def Obligations.MuliResult : Prop :=
  ∀ (s : State) (rd : RegIx) (imm : BitVec 8),
    decode (BitVec.ofNat 16 (0xE000 + 256 * rd.val + imm.toNat)) = .ok (.muli rd imm) ∧
    ∃ t, exec (.muli rd imm) s = .next t ∧
      RegResult s t rd (BitVec.ofNat 16 ((s.readReg rd).toNat * (imm.signExtend 16).toNat)) s.psr ∧
      (imm = 0xFF#8 → t.readReg rd = -s.readReg rd)

/-- 40_arithmetic.md R101, R110, R111 (the spec's decisions D7, D8): SUB and SUBI; C is the borrow. -/
def Obligations.SubResult : Prop :=
  ∀ (s : State) (rd rs : RegIx) (imm : BitVec 8),
    (∃ t, exec (.sub rd rs) s = .next t ∧
      RegResult s t rd (BitVec.ofInt 16 ((s.readReg rd).toNat - (s.readReg rs).toNat))
        { s.psr with
          c := decide ((s.readReg rs).toNat > (s.readReg rd).toNat)
          f := decide ((s.readReg rd).toInt - (s.readReg rs).toInt < -32768 ∨
            (s.readReg rd).toInt - (s.readReg rs).toInt > 32767) }) ∧
    (∃ t, exec (.subi rd imm) s = .next t ∧
      RegResult s t rd (BitVec.ofInt 16 ((s.readReg rd).toNat - (imm.signExtend 16).toNat))
        { s.psr with
          c := decide ((imm.signExtend 16).toNat > (s.readReg rd).toNat)
          f := decide ((s.readReg rd).toInt - imm.toInt < -32768 ∨ (s.readReg rd).toInt - imm.toInt > 32767) })

/-- 40_arithmetic.md R101, R112, R113 (the spec's decision D26): SUBC and SUBCI. -/
def Obligations.SubcResult : Prop :=
  ∀ (s : State) (rd rs : RegIx) (imm : BitVec 8),
    (∃ t, exec (.subc rd rs) s = .next t ∧
      RegResult s t rd (BitVec.ofInt 16 ((s.readReg rd).toNat - (s.readReg rs).toNat - s.psr.c.toNat))
        { s.psr with
          c := decide ((s.readReg rs).toNat + s.psr.c.toNat > (s.readReg rd).toNat)
          f := decide ((s.readReg rd).toInt - (s.readReg rs).toInt - s.psr.c.toNat < -32768 ∨
            (s.readReg rd).toInt - (s.readReg rs).toInt - s.psr.c.toNat > 32767) }) ∧
    (∃ t, exec (.subci rd imm) s = .next t ∧
      RegResult s t rd (BitVec.ofInt 16 ((s.readReg rd).toNat - (imm.signExtend 16).toNat - s.psr.c.toNat))
        { s.psr with
          c := decide ((imm.signExtend 16).toNat + s.psr.c.toNat > (s.readReg rd).toNat)
          f := decide ((s.readReg rd).toInt - imm.toInt - s.psr.c.toNat < -32768 ∨
            (s.readReg rd).toInt - imm.toInt - s.psr.c.toNat > 32767) })

/-- 40_arithmetic.md R114, R115 (the spec's decisions D7, D8): CMP and CMPI write Z, L and N and nothing else. -/
def Obligations.CmpResult : Prop :=
  ∀ (s : State) (rd rs : RegIx) (imm : BitVec 8),
    (∃ t, exec (.cmp rd rs) s = .next t ∧
      PsrResult s t
        { s.psr with
          z := decide (s.readReg rd = s.readReg rs)
          l := decide ((s.readReg rs).toNat > (s.readReg rd).toNat)
          n := decide ((s.readReg rs).toInt > (s.readReg rd).toInt) }) ∧
    (∃ t, exec (.cmpi rd imm) s = .next t ∧
      PsrResult s t
        { s.psr with
          z := decide (s.readReg rd = imm.signExtend 16)
          l := decide ((imm.signExtend 16).toNat > (s.readReg rd).toNat)
          n := decide (imm.toInt > (s.readReg rd).toInt) })

/-- 10_state.md R31: the source's formula for N, the exclusive-or of L and the two sign bits. -/
def Obligations.NegativeIsLowXorSigns : Prop :=
  ∀ (s t : State) (rd rs : RegIx) (imm : BitVec 8),
    (exec (.cmp rd rs) s = .next t →
      t.psr.n = (t.psr.l ^^ ((s.readReg rs).getLsbD 15 ^^ (s.readReg rd).getLsbD 15))) ∧
    (exec (.cmpi rd imm) s = .next t →
      t.psr.n = (t.psr.l ^^ (imm.getLsbD 7 ^^ (s.readReg rd).getLsbD 15)))

/-- 40_arithmetic.md R116 (the spec's inference): after an add or a subtract C is 0 exactly when the result is the exact
unsigned one, and F is 0 exactly when it is the exact signed one. -/
def Obligations.CarryAndFlagReportInexactness : Prop :=
  ∀ (s t : State) (rd rs : RegIx),
    (exec (.add rd rs) s = .next t →
      (t.psr.c = false ↔ (t.readReg rd).toNat = (s.readReg rd).toNat + (s.readReg rs).toNat) ∧
      (t.psr.f = false ↔ (t.readReg rd).toInt = (s.readReg rd).toInt + (s.readReg rs).toInt)) ∧
    (exec (.sub rd rs) s = .next t →
      (t.psr.c = false ↔ ((t.readReg rd).toNat : Int) = (s.readReg rd).toNat - (s.readReg rs).toNat) ∧
      (t.psr.f = false ↔ (t.readReg rd).toInt = (s.readReg rd).toInt - (s.readReg rs).toInt))

/-- 40_arithmetic.md R106, R112 (the spec's decision D26): ADD (SUB) of the low words and then ADDC (SUBC) of the high
words adds (subtracts) 32 bit numbers, with the carry (borrow) and the signed overflow of the whole. -/
def Obligations.CarryChainsDoubleWords : Prop :=
  ∀ (s t r : State) (lo hi lo' hi' : RegIx) (x y : BitVec 32), lo ≠ hi → lo ≠ hi' →
    x = s.readReg hi ++ s.readReg lo → y = s.readReg hi' ++ s.readReg lo' →
    (exec (.add lo lo') s = .next t → exec (.addc hi hi') t = .next r →
      r.readReg hi ++ r.readReg lo = x + y ∧
      r.psr.c = decide (x.toNat + y.toNat ≥ 2 ^ 32) ∧
      r.psr.f = decide (x.toInt + y.toInt < -2 ^ 31 ∨ x.toInt + y.toInt ≥ 2 ^ 31)) ∧
    (exec (.sub lo lo') s = .next t → exec (.subc hi hi') t = .next r →
      r.readReg hi ++ r.readReg lo = x - y ∧
      r.psr.c = decide (y.toNat > x.toNat) ∧
      r.psr.f = decide (x.toInt - y.toInt < -2 ^ 31 ∨ x.toInt - y.toInt ≥ 2 ^ 31))

/-! ## Logic and moves (41_logical_move.md) -/

/-- 41_logical_move.md R120, R124 (that AND and XOR are bitwise: log entry 25, the spec's general knowledge G2): AND and
XOR, their words and their results. -/
def Obligations.AndXorResult : Prop :=
  ∀ (s : State) (rd rs : RegIx),
    decode (BitVec.ofNat 16 (0x0010 + 256 * rd.val + rs.val)) = .ok (.and rd rs) ∧
    (∃ t, exec (.and rd rs) s = .next t ∧ RegResult s t rd (s.readReg rd &&& s.readReg rs) s.psr) ∧
    decode (BitVec.ofNat 16 (0x0030 + 256 * rd.val + rs.val)) = .ok (.xor rd rs) ∧
    (∃ t, exec (.xor rd rs) s = .next t ∧ RegResult s t rd (s.readReg rd ^^^ s.readReg rs) s.psr) ∧
    (∀ t, exec (.and rd rd) s = .next t → t.readReg rd = s.readReg rd) ∧
    (∀ t, exec (.xor rd rd) s = .next t → t.readReg rd = 0#16)

/-- 41_logical_move.md R121, R125 (that they are bitwise: log entry 25, the spec's general knowledge G2): ANDI and XORI
with the zero-extended immediate; the upper byte of ANDI's result is 0, that of XORI's is kept. -/
def Obligations.AndiXoriResult : Prop :=
  ∀ (s : State) (rd : RegIx) (imm : BitVec 8),
    decode (BitVec.ofNat 16 (0x1000 + 256 * rd.val + imm.toNat)) = .ok (.andi rd imm) ∧
    (∃ t, exec (.andi rd imm) s = .next t ∧
      RegResult s t rd (s.readReg rd &&& BitVec.ofNat 16 imm.toNat) s.psr ∧
      (t.readReg rd).extractLsb' 8 8 = 0#8) ∧
    decode (BitVec.ofNat 16 (0x3000 + 256 * rd.val + imm.toNat)) = .ok (.xori rd imm) ∧
    (∃ t, exec (.xori rd imm) s = .next t ∧
      RegResult s t rd (s.readReg rd ^^^ BitVec.ofNat 16 imm.toNat) s.psr ∧
      (t.readReg rd).extractLsb' 8 8 = (s.readReg rd).extractLsb' 8 8)

/-- 41_logical_move.md R122, R123 (that they are bitwise: log entry 25, the spec's general knowledge G2): OR and ORI; OR
of a register with itself, the NOP among them, changes only the pc (the spec's inference about R0 is the case rd = 0). -/
def Obligations.OrResult : Prop :=
  ∀ (s : State) (rd rs : RegIx) (imm : BitVec 8),
    (∃ t, exec (.or rd rs) s = .next t ∧ RegResult s t rd (s.readReg rd ||| s.readReg rs) s.psr) ∧
    (∃ t, exec (.ori rd imm) s = .next t ∧
      RegResult s t rd (s.readReg rd ||| BitVec.ofNat 16 imm.toNat) s.psr) ∧
    (∃ t, exec (.or rd rd) s = .next t ∧ PcResult s t (s.pc + 1#16))

/-- 41_logical_move.md R126, R127: MOV and MOVI, their words and their results; MOV reads no destination. -/
def Obligations.MovResult : Prop :=
  ∀ (s : State) (rd rs : RegIx) (imm : BitVec 8),
    decode (BitVec.ofNat 16 (0x00D0 + 256 * rd.val + rs.val)) = .ok (.mov rd rs) ∧
    (∃ t, exec (.mov rd rs) s = .next t ∧ RegResult s t rd (s.readReg rs) s.psr) ∧
    decode (BitVec.ofNat 16 (0xD000 + 256 * rd.val + imm.toNat)) = .ok (.movi rd imm) ∧
    (∃ t, exec (.movi rd imm) s = .next t ∧ RegResult s t rd (BitVec.ofNat 16 imm.toNat) s.psr)

/-! ## Shifts and LUI (42_shift_lui.md) -/

/-- 42_shift_lui.md R135, R136 (zeros enter: log entry 25, the spec's general knowledge G3; an amount out of range faults:
the spec's decision D11): LSH by the whole register as a signed number; left multiplies, right divides rounding down; an
amount outside -15..15 faults; in range the low five bits give the same amount. -/
def Obligations.LshResult : Prop :=
  ∀ (s : State) (rd ra : RegIx) (n : Int), n = (s.readReg ra).toInt →
    decode (BitVec.ofNat 16 (0x8040 + 256 * rd.val + ra.val)) = .ok (.lsh rd ra) ∧
    (0 ≤ n → n ≤ 15 → ∃ t, exec (.lsh rd ra) s = .next t ∧
      RegResult s t rd (BitVec.ofNat 16 ((s.readReg rd).toNat * 2 ^ n.toNat)) s.psr) ∧
    (-15 ≤ n → n < 0 → ∃ t, exec (.lsh rd ra) s = .next t ∧
      RegResult s t rd (BitVec.ofNat 16 ((s.readReg rd).toNat / 2 ^ (-n).toNat)) s.psr) ∧
    (-15 ≤ n → n ≤ 15 → ((s.readReg ra).extractLsb' 0 5).toInt = n) ∧
    (n < -15 ∨ 15 < n → exec (.lsh rd ra) s = .fault (.shiftAmountOutOfRange n))

/-- 42_shift_lui.md R135, R137, 30_encoding.md R82 (the five bits are one two's complement number: the spec's decision
D28, log entry 22; zeros enter: log entry 25, the spec's general knowledge G3; the fault: decision D11): LSHI by the five
bit two's complement amount; only the pattern 10000 faults. -/
def Obligations.LshiResult : Prop :=
  ∀ (s : State) (rd : RegIx) (k : BitVec 5) (n : Int),
    n = (if k.getLsbD 4 then ((k.extractLsb' 0 4).toNat : Int) - 16 else (k.extractLsb' 0 4).toNat) →
    decode (BitVec.ofNat 16 (0x8000 + 256 * rd.val + k.toNat)) = .ok (.lshi rd k) ∧
    (0 ≤ n → ∃ t, exec (.lshi rd k) s = .next t ∧
      RegResult s t rd (BitVec.ofNat 16 ((s.readReg rd).toNat * 2 ^ n.toNat)) s.psr) ∧
    (n < 0 → n ≠ -16 → ∃ t, exec (.lshi rd k) s = .next t ∧
      RegResult s t rd (BitVec.ofNat 16 ((s.readReg rd).toNat / 2 ^ (-n).toNat)) s.psr) ∧
    (n = -16 → exec (.lshi rd k) s = .fault (.shiftAmountOutOfRange (-16)))

/-- 42_shift_lui.md R135, R138, R139, 30_encoding.md R82 (the five bits of ASHUI are one two's complement number: the
spec's decision D28, log entry 22; the sign enters from the left, so that a right shift is a signed division: log entry 25,
the spec's general knowledge G3; no flag: decision D25; an out-of-range amount faults: D11): ASHU and ASHUI; a right shift
is the signed number divided rounding down. -/
def Obligations.AshuResult : Prop :=
  ∀ (s : State) (rd ra : RegIx) (k : BitVec 5) (n : Int) (i : Instr),
    (i = .ashu rd ra ∧ n = (s.readReg ra).toInt) ∨
      (i = .ashui rd k ∧
        n = (if k.getLsbD 4 then ((k.extractLsb' 0 4).toNat : Int) - 16 else (k.extractLsb' 0 4).toNat)) →
    (0 ≤ n → n ≤ 15 → ∃ t, exec i s = .next t ∧
      RegResult s t rd (BitVec.ofNat 16 ((s.readReg rd).toNat * 2 ^ n.toNat)) s.psr) ∧
    (-15 ≤ n → n < 0 → ∃ t, exec i s = .next t ∧
      RegResult s t rd (BitVec.ofInt 16 ((s.readReg rd).toInt / 2 ^ (-n).toNat)) s.psr) ∧
    (n < -15 ∨ 15 < n → exec i s = .fault (.shiftAmountOutOfRange n))

/-- 42_shift_lui.md R142 (the low byte becomes 0: the spec's decision D24): LUI; and, the spec's inference in R142,
41_logical_move.md R123 and 43_memory_extend.md R152, LUI and then ORI load any 16 bit constant (that ORI is bitwise: log
entry 25). -/
def Obligations.LuiResult : Prop :=
  (∀ (s : State) (rd : RegIx) (imm : BitVec 8),
    ∃ t, exec (.lui rd imm) s = .next t ∧ RegResult s t rd (BitVec.ofNat 16 (256 * imm.toNat)) s.psr) ∧
  (∀ (s : State) (rd : RegIx) (v : Word),
    ∃ t r, exec (.lui rd (v.extractLsb' 8 8)) s = .next t ∧ exec (.ori rd (v.extractLsb' 0 8)) t = .next r ∧
      r.readReg rd = v)

/-! ## Memory and byte extension (43_memory_extend.md, 20_memory.md) -/

/-- 43_memory_extend.md R150, 20_memory.md R55, R56 (where an address is valid: the spec's decision D4, held as the ranges
of log entry 13; the fault of a word that holds no value: log entry 7, R41 and R233 also allow a draw; what a data word is
with UNIFIED_MEMORY: log entry 12): LOAD, its word, its result, and the two faults of MemRead. With no range listed, the
spec's DMEM_VALID, every address is valid and LOAD of a word that holds a value completes; an address inside a listed
range is not valid, and any other is. -/
def Obligations.LoadResult : Prop :=
  ∀ (s : State) (rd ra : RegIx) (v : Word),
    decode (BitVec.ofNat 16 (0x4000 + 256 * rd.val + ra.val)) = .ok (.load rd ra) ∧
    (s.dmemValid (s.readReg ra) = true → s.dataWord (s.readReg ra) = some v →
      ∃ t, exec (.load rd ra) s = .next t ∧ RegResult s t rd v s.psr) ∧
    (s.dmemValid (s.readReg ra) = false →
      exec (.load rd ra) s = .fault (.invalidDataAddress (s.readReg ra))) ∧
    (s.dmemValid (s.readReg ra) = true → s.dataWord (s.readReg ra) = none →
      exec (.load rd ra) s = .fault (.readOfUnwrittenState (.dmem (s.readReg ra)))) ∧
    (s.params.dmemHoles = [] → s.dataWord (s.readReg ra) = some v →
      ∃ t, exec (.load rd ra) s = .next t ∧ RegResult s t rd v s.psr) ∧
    (∀ a : Word, s.dmemValid a = true ↔
      ∀ first last : Nat, (first, last) ∈ s.params.dmemHoles → a.toNat < first ∨ last < a.toNat)

/-- 43_memory_extend.md R151, 20_memory.md R55, R57 (where an address is valid: the spec's decision D4, held as the ranges
of log entry 13; StoreToCode: decision D3 and log entry 12): STOR, its word, the one data word it changes, and the two
faults of MemWrite. With the spec's values, separate memories and no range listed, STOR always completes. -/
def Obligations.StorResult : Prop :=
  ∀ (s : State) (rs ra : RegIx),
    decode (BitVec.ofNat 16 (0x4040 + 256 * rs.val + ra.val)) = .ok (.stor rs ra) ∧
    (s.dmemValid (s.readReg ra) = true → ¬(s.params.unifiedMemory = true ∧ s.inImage (s.readReg ra) = true) →
      ∃ t, exec (.stor rs ra) s = .next t ∧
        t.dataWord (s.readReg ra) = some (s.readReg rs) ∧
        (∀ a : Word, a ≠ s.readReg ra → t.dataWord a = s.dataWord a) ∧
        (∀ a : Word, t.codeWord a = s.codeWord a) ∧
        SameRegs s t ∧ t.psr = s.psr ∧ t.pc = s.pc + 1#16 ∧ SameControl s t) ∧
    (s.dmemValid (s.readReg ra) = false →
      exec (.stor rs ra) s = .fault (.invalidDataAddress (s.readReg ra))) ∧
    (s.dmemValid (s.readReg ra) = true → s.params.unifiedMemory = true → s.inImage (s.readReg ra) = true →
      exec (.stor rs ra) s = .fault (.storeToCode (s.readReg ra))) ∧
    (s.params.dmemHoles = [] → ∀ a : Word, s.dmemValid a = true) ∧
    (s.params.dmemHoles = [] → s.params.unifiedMemory = false →
      ∃ t, exec (.stor rs ra) s = .next t ∧ t.dataWord (s.readReg ra) = some (s.readReg rs)) ∧
    (∀ (a : Word) (first last : Nat), (first, last) ∈ s.params.dmemHoles → first ≤ a.toNat → a.toNat ≤ last →
      s.dmemValid a = false)

/-- 20_memory.md R61 (the spec's decision D23; with UNIFIED_MEMORY log entry 12): a LOAD right after a STOR gives the
stored word at its address, and at every other address what a LOAD gave before. -/
def Obligations.LoadSeesLatestStor : Prop :=
  ∀ (s t : State) (rs ra rd rb : RegIx), exec (.stor rs ra) s = .next t →
    (s.readReg rb = s.readReg ra →
      ∃ r, exec (.load rd rb) t = .next r ∧ r.readReg rd = s.readReg rs) ∧
    (s.readReg rb ≠ s.readReg ra → ∀ r, exec (.load rd rb) s = .next r →
      ∃ r', exec (.load rd rb) t = .next r' ∧ r'.readReg rd = r.readReg rd)

/-- 43_memory_extend.md R153, R154 (no flag: the spec's decision D25): SNXB and ZRXB look at the low byte only. -/
def Obligations.ByteExtensionResult : Prop :=
  ∀ (s : State) (rd rs : RegIx),
    (∃ t, exec (.snxb rd rs) s = .next t ∧
      RegResult s t rd (BitVec.ofInt 16 ((s.readReg rs).extractLsb' 0 8).toInt) s.psr) ∧
    (∃ t, exec (.zrxb rd rs) s = .next t ∧
      RegResult s t rd (BitVec.ofNat 16 ((s.readReg rs).toNat % 256)) s.psr)

/-! ## Conditions and control transfer (44_control.md) -/

/-- 44_control.md R160: the table of conditions, code by code, and that codes differing in bit 0 are complementary (the
spec's inference). -/
def Obligations.ConditionTable : Prop :=
  ∀ p : Psr,
    condHolds p (Cond.ofNibble 0b0000#4) = p.z ∧ condHolds p (Cond.ofNibble 0b0001#4) = !p.z ∧
    condHolds p (Cond.ofNibble 0b0010#4) = p.c ∧ condHolds p (Cond.ofNibble 0b0011#4) = !p.c ∧
    condHolds p (Cond.ofNibble 0b0100#4) = p.l ∧ condHolds p (Cond.ofNibble 0b0101#4) = !p.l ∧
    condHolds p (Cond.ofNibble 0b0110#4) = p.n ∧ condHolds p (Cond.ofNibble 0b0111#4) = !p.n ∧
    condHolds p (Cond.ofNibble 0b1000#4) = p.f ∧ condHolds p (Cond.ofNibble 0b1001#4) = !p.f ∧
    condHolds p (Cond.ofNibble 0b1010#4) = (!p.l && !p.z) ∧ condHolds p (Cond.ofNibble 0b1011#4) = (p.l || p.z) ∧
    condHolds p (Cond.ofNibble 0b1100#4) = (!p.n && !p.z) ∧ condHolds p (Cond.ofNibble 0b1101#4) = (p.n || p.z) ∧
    condHolds p (Cond.ofNibble 0b1110#4) = true ∧ condHolds p (Cond.ofNibble 0b1111#4) = false ∧
    ∀ code : Nibble, condHolds p (Cond.ofNibble (code ^^^ 1#4)) = !condHolds p (Cond.ofNibble code)

/-- 44_control.md R161 (the spec's inference): after a compare the conditions order the first assembler operand, Rsrc or
Imm, against the second, Rdest. -/
def Obligations.ConditionsAfterCompare : Prop :=
  ∀ (s t : State) (rd rs : RegIx) (imm : BitVec 8) (p q : Word), q = s.readReg rd →
    (exec (.cmp rd rs) s = .next t ∧ p = s.readReg rs) ∨ (exec (.cmpi rd imm) s = .next t ∧ p = imm.signExtend 16) →
    (condHolds t.psr .eq = true ↔ p = q) ∧ (condHolds t.psr .ne = true ↔ p ≠ q) ∧
    (condHolds t.psr .hi = true ↔ p.toNat > q.toNat) ∧ (condHolds t.psr .ls = true ↔ p.toNat ≤ q.toNat) ∧
    (condHolds t.psr .lo = true ↔ p.toNat < q.toNat) ∧ (condHolds t.psr .hs = true ↔ p.toNat ≥ q.toNat) ∧
    (condHolds t.psr .gt = true ↔ p.toInt > q.toInt) ∧ (condHolds t.psr .le = true ↔ p.toInt ≤ q.toInt) ∧
    (condHolds t.psr .lt = true ↔ p.toInt < q.toInt) ∧ (condHolds t.psr .ge = true ↔ p.toInt ≥ q.toInt)

/-- 44_control.md R162 (no flag, code 1111 writes 0: the spec's decisions D25, D27): Scond. -/
def Obligations.ScondResult : Prop :=
  ∀ (s : State) (rd : RegIx) (cond : Cond),
    (condHolds s.psr cond = true → ∃ t, exec (.scond rd cond) s = .next t ∧ RegResult s t rd 0x0001#16 s.psr) ∧
    (condHolds s.psr cond = false → ∃ t, exec (.scond rd cond) s = .next t ∧ RegResult s t rd 0x0000#16 s.psr)

/-- 44_control.md R163 (BRANCH_BASE is open: the spec's decision D6): Bcond, for either value of BRANCH_BASE. -/
def Obligations.BcondResult : Prop :=
  ∀ (s : State) (cond : Cond) (disp : BitVec 8) (base : Int),
    (s.params.branchBase = .thisInstruction ∧ base = 0) ∨ (s.params.branchBase = .nextInstruction ∧ base = 1) →
    (condHolds s.psr cond = true → ∃ t, exec (.bcond cond disp) s = .next t ∧
      PcResult s t (BitVec.ofInt 16 (s.pc.toNat + base + disp.toInt))) ∧
    (condHolds s.psr cond = false → ∃ t, exec (.bcond cond disp) s = .next t ∧ PcResult s t (s.pc + 1#16))

/-- 44_control.md R164 (the spec's decision D21): Jcond. -/
def Obligations.JcondResult : Prop :=
  ∀ (s : State) (cond : Cond) (rt : RegIx),
    (condHolds s.psr cond = true → ∃ t, exec (.jcond cond rt) s = .next t ∧ PcResult s t (s.readReg rt)) ∧
    (condHolds s.psr cond = false → ∃ t, exec (.jcond cond rt) s = .next t ∧ PcResult s t (s.pc + 1#16))

/-- 44_control.md R165 (the target is read before the link is written: the spec's decision D21): JAL, the link register
being the target register or not. -/
def Obligations.JalResult : Prop :=
  ∀ (s : State) (rl rt : RegIx),
    ∃ t, exec (.jal rl rt) s = .next t ∧ OnlyRegWritten s t rl (s.pc + 1#16) ∧ t.pc = s.readReg rt ∧
      t.psr = s.psr ∧ SameMemory s t ∧ SameControl s t

/-- 44_control.md R165, R166: JUC of the link register, in any later state in which it still holds the link, returns to
the word after the JAL. -/
def Obligations.ReturnThroughLink : Prop :=
  ∀ (s t r : State) (rl rt : RegIx), exec (.jal rl rt) s = .next t → r.readReg rl = t.readReg rl →
    ∃ b, exec (.jcond .uc rl) r = .next b ∧ b.pc.toNat = (s.pc.toNat + 1) % 65536

/-! ## Bit test and PSR access (45_bit_psr.md) -/

/-- 45_bit_psr.md R175, R177 (an offset above 15 faults: the spec's decision D12): TBIT. -/
def Obligations.TbitResult : Prop :=
  ∀ (s : State) (rs ro : RegIx),
    ((s.readReg ro).toNat ≤ 15 → ∃ t, exec (.tbit rs ro) s = .next t ∧
      PsrResult s t { s.psr with f := (s.readReg rs).getLsbD (s.readReg ro).toNat }) ∧
    ((s.readReg ro).toNat > 15 → exec (.tbit rs ro) s = .fault (.bitOffsetOutOfRange (s.readReg ro).toNat))

/-- 45_bit_psr.md R176: TBITI, its word and its result; every offset is legal; bit 15 is the sign, bit 0 the parity. -/
def Obligations.TbitiResult : Prop :=
  ∀ (s : State) (rs : RegIx) (k : Fin 16),
    decode (BitVec.ofNat 16 (0x40E0 + 256 * rs.val + k.val)) = .ok (.tbiti rs k) ∧
    ∃ t, exec (.tbiti rs k) s = .next t ∧ PsrResult s t { s.psr with f := (s.readReg rs).getLsbD k.val } ∧
      (k = 15 → t.psr.f = decide ((s.readReg rs).toInt < 0)) ∧
      (k = 0 → t.psr.f = decide ((s.readReg rs).toNat % 2 = 1))

/-- 45_bit_psr.md R178, R180 (what is discarded, no further effect, and that every number but PSR_RPROC faults: the
spec's decisions D13 to D15): LPR. -/
def Obligations.LprResult : Prop :=
  ∀ (s : State) (rs : RegIx),
    (∀ n : Fin 16, n ≠ s.params.psrRproc → exec (.lpr rs n) s = .fault (.unknownProcessorRegister n)) ∧
    ∃ t, exec (.lpr rs s.params.psrRproc) s = .next t ∧ PsrResult s t t.psr ∧
      t.psr.i = (s.readReg rs).getLsbD 11 ∧ t.psr.p = (s.readReg rs).getLsbD 10 ∧
      t.psr.e = (s.readReg rs).getLsbD 9 ∧ t.psr.n = (s.readReg rs).getLsbD 7 ∧
      t.psr.z = (s.readReg rs).getLsbD 6 ∧ t.psr.f = (s.readReg rs).getLsbD 5 ∧
      t.psr.l = (s.readReg rs).getLsbD 2 ∧ t.psr.t = (s.readReg rs).getLsbD 1 ∧
      t.psr.c = (s.readReg rs).getLsbD 0 ∧
      Psr.image 0#4 t.psr = s.readReg rs &&& 0x0EE7#16

/-- 45_bit_psr.md R179, R180 (bits 15 to 12 are a fresh draw, and every number but PSR_RPROC faults: the spec's decisions
D13, D14): SPR. The statement holds for every free value: it says nothing of bits 15 to 12. The model's own counter of
draws goes on by one (log entry 8). -/
def Obligations.SprResult : Prop :=
  ∀ (s : State) (rd : RegIx),
    (∀ n : Fin 16, n ≠ s.params.psrRproc → exec (.spr n rd) s = .fault (.unknownProcessorRegister n)) ∧
    ∃ t, exec (.spr s.params.psrRproc rd) s = .next t ∧
      t.readReg rd &&& 0x0FFF#16 = BitVec.ofNat 16 (2048 * s.psr.i.toNat + 1024 * s.psr.p.toNat + 512 * s.psr.e.toNat +
        128 * s.psr.n.toNat + 64 * s.psr.z.toNat + 32 * s.psr.f.toNat +
        4 * s.psr.l.toNat + 2 * s.psr.t.toNat + s.psr.c.toNat) ∧
      (∀ q : RegIx, q ≠ rd → t.readReg q = s.readReg q) ∧ t.psr = s.psr ∧ t.pc = s.pc + 1#16 ∧
      SameMemory s t ∧ t.waiting = s.waiting ∧ t.params = s.params ∧ t.draws = s.draws + 1

/-- 45_bit_psr.md R179: SPR and then, in any later state of the machine in which the register still holds the word, LPR
restores the PSR exactly, whatever the free value was. -/
def Obligations.SprThenLprRestoresPsr : Prop :=
  ∀ (s t r : State) (rd : RegIx), exec (.spr s.params.psrRproc rd) s = .next t →
    r.readReg rd = t.readReg rd → r.params = s.params →
    ∃ b, exec (.lpr rd s.params.psrRproc) r = .next b ∧ b.psr = s.psr

/-! ## System (46_system.md) -/

/-- 46_system.md R193 (the spec's decision D16): WAIT sets `waiting` and changes nothing else, the pc included. -/
def Obligations.WaitResult : Prop :=
  ∀ s : State, ∃ t, exec .wait s = .next t ∧ t.waiting = true ∧ t.pc = s.pc ∧ SameRegs s t ∧ t.psr = s.psr ∧
    SameMemory s t ∧ t.params = s.params ∧ t.draws = s.draws

/-- 46_system.md R185 to R189 (the spec's decision D17): DI, EI, EXCP and RETX are refused. -/
def Obligations.UndocumentedSystemInstructionsRefused : Prop :=
  ∀ (s : State) (vector : Fin 16),
    exec .di s = .refused (.unmodelled .di) ∧ exec .ei s = .refused (.unmodelled .ei) ∧
    exec (.excp vector) s = .refused (.unmodelled (.excp vector)) ∧ exec .retx s = .refused (.unmodelled .retx)

/-! ## What the host loads (70_reset_and_hazards.md) -/

/-- 70_reset_and_hazards.md R235, 10_state.md R37 (log entries 10 and 12): what the host loads is what the machine then
holds. The k-th word of a program is at the k-th address from the start on, modulo 2^16, and of data too unless the image
of a machine with UNIFIED_MEMORY hides it; every other address reads as before, and nothing else changes. With
UNIFIED_MEMORY a loaded program is read as data as well. -/
def Obligations.HostLoadingPlacesWords : Prop :=
  ∀ (s : State) (start : Word) (ws : List Word), ws.length ≤ 65536 →
    (∀ (k : Nat) (hk : k < ws.length),
      (s.loadCode start ws).codeWord (start + BitVec.ofNat 16 k) = some ws[k] ∧
      (s.params.unifiedMemory = true →
        (s.loadCode start ws).dataWord (start + BitVec.ofNat 16 k) = some ws[k]) ∧
      (s.params.unifiedMemory = false ∨ s.codeWord (start + BitVec.ofNat 16 k) = none →
        (s.loadData start ws).dataWord (start + BitVec.ofNat 16 k) = some ws[k])) ∧
    (∀ a : Word, (∀ k : Nat, k < ws.length → a ≠ start + BitVec.ofNat 16 k) →
      (s.loadCode start ws).codeWord a = s.codeWord a ∧ (s.loadCode start ws).dataWord a = s.dataWord a ∧
      (s.loadData start ws).dataWord a = s.dataWord a) ∧
    (∀ a : Word, (s.loadData start ws).codeWord a = s.codeWord a ∧
      (s.params.unifiedMemory = false → (s.loadCode start ws).dataWord a = s.dataWord a)) ∧
    ∀ t : State, t = s.loadCode start ws ∨ t = s.loadData start ws →
      SameRegs s t ∧ t.psr = s.psr ∧ t.pc = s.pc ∧ SameControl s t
end

