-- ==== Sys2Proof/Laws/Decode.lean ====
section
/-!
SUPPORT. The fields of a packed word, a word put together again from its fields, and the maps between numbers and
nibbles, both ways.
-/

namespace Sys2Proof

@[simp] theorem regOf_nibbleOf (r : RegIx) : regOf (nibbleOf r) = r := rfl

@[simp] theorem nibbleOf_regOf (n : Nibble) : nibbleOf (regOf n) = n := rfl

@[simp] theorem Cond.ofNibble_toNibble (c : Cond) : Cond.ofNibble c.toNibble = c := by cases c <;> rfl

@[simp] theorem Cond.toNibble_ofNibble (n : Nibble) : (Cond.ofNibble n).toNibble = n := by
  revert n
  decide

section Fields

variable (op a ext b : Nibble) (imm : BitVec 8) (kind : BitVec 1) (amount : BitVec 5)

@[simp] theorem opField_packNibbles : opField (packNibbles op a ext b) = op := by
  ext i hi; simp [opField, packNibbles]; grind

@[simp] theorem aField_packNibbles : aField (packNibbles op a ext b) = a := by
  ext i hi; simp [aField, packNibbles]; grind

@[simp] theorem extField_packNibbles : extField (packNibbles op a ext b) = ext := by
  ext i hi; simp [extField, packNibbles]; grind

@[simp] theorem bField_packNibbles : bField (packNibbles op a ext b) = b := by
  ext i hi; simp [bField, packNibbles]; grind

@[simp] theorem opField_packImmediate : opField (packImmediate op a imm) = op := by
  ext i hi; simp [opField, packImmediate]; grind

@[simp] theorem aField_packImmediate : aField (packImmediate op a imm) = a := by
  ext i hi; simp [aField, packImmediate]; grind

@[simp] theorem immField_packImmediate : immField (packImmediate op a imm) = imm := by
  ext i hi; simp [immField, packImmediate]; grind

@[simp] theorem opField_packShift : opField (packShift a kind amount) = 0b1000#4 := by
  ext i hi; simp [opField, packShift]; grind

@[simp] theorem aField_packShift : aField (packShift a kind amount) = a := by
  ext i hi; simp [aField, packShift]; grind

@[simp] theorem extField_packShift :
    extField (packShift a kind amount) = 0b00#2 ++ kind ++ amount.extractLsb' 4 1 := by
  ext i hi; simp [extField, packShift]; grind

@[simp] theorem amountField_packShift : amountField (packShift a kind amount) = amount := by
  ext i hi; simp [amountField, packShift]; grind

theorem packNibbles_fields (w : Word) : packNibbles (opField w) (aField w) (extField w) (bField w) = w := by
  ext i hi; simp [opField, aField, extField, bField, packNibbles]; grind

theorem packImmediate_fields (w : Word) : packImmediate (opField w) (aField w) (immField w) = w := by
  ext i hi; simp [opField, aField, immField, packImmediate]; grind

end Fields

/-! ## Packed words bit by bit -/

theorem packNibbles_and (op a ext b op' a' ext' b' : Nibble) :
    packNibbles op a ext b &&& packNibbles op' a' ext' b' =
      packNibbles (op &&& op') (a &&& a') (ext &&& ext') (b &&& b') := by
  ext i hi; simp [packNibbles]; grind

theorem packImmediate_and (op a op' a' : Nibble) (imm imm' : BitVec 8) :
    packImmediate op a imm &&& packImmediate op' a' imm' = packImmediate (op &&& op') (a &&& a') (imm &&& imm') := by
  ext i hi; simp [packImmediate]; grind

theorem packShift_eq (a : Nibble) (kind : BitVec 1) (amount : BitVec 5) :
    packShift a kind amount =
      packNibbles 0b1000#4 a (0b00#2 ++ kind ++ amount.extractLsb' 4 1) (amount.extractLsb' 0 4) := by
  ext i hi; simp [packShift, packNibbles]; grind

end Sys2Proof
end

