-- ==== Sys2Proof/Laws/State.lean ====
section
/-!
SUPPORT. One lemma per field per update of State, all true by rfl, so that no later proof unfolds a record update, and
the laws of reading a register after a write.
-/

namespace Sys2Proof.Machine

variable (s : State)

/-! ## writeReg -/

@[simp] theorem State.writeReg_regs (r : RegIx) (v : Word) : (s.writeReg r v).regs = s.regs.set r v := rfl
@[simp] theorem State.writeReg_pc (r : RegIx) (v : Word) : (s.writeReg r v).pc = s.pc := rfl
@[simp] theorem State.writeReg_psr (r : RegIx) (v : Word) : (s.writeReg r v).psr = s.psr := rfl
@[simp] theorem State.writeReg_imem (r : RegIx) (v : Word) : (s.writeReg r v).imem = s.imem := rfl
@[simp] theorem State.writeReg_dmem (r : RegIx) (v : Word) : (s.writeReg r v).dmem = s.dmem := rfl
@[simp] theorem State.writeReg_waiting (r : RegIx) (v : Word) : (s.writeReg r v).waiting = s.waiting := rfl
@[simp] theorem State.writeReg_params (r : RegIx) (v : Word) : (s.writeReg r v).params = s.params := rfl
@[simp] theorem State.writeReg_draws (r : RegIx) (v : Word) : (s.writeReg r v).draws = s.draws := rfl
@[simp] theorem State.writeReg_codeWord (r : RegIx) (v : Word) (a : Word) : (s.writeReg r v).codeWord a = s.codeWord a := rfl
@[simp] theorem State.writeReg_dataWord (r : RegIx) (v : Word) (a : Word) : (s.writeReg r v).dataWord a = s.dataWord a := rfl

/-! ## goto -/

@[simp] theorem State.goto_regs (t : Word) : (s.goto t).regs = s.regs := rfl
@[simp] theorem State.goto_pc (t : Word) : (s.goto t).pc = t := rfl
@[simp] theorem State.goto_psr (t : Word) : (s.goto t).psr = s.psr := rfl
@[simp] theorem State.goto_imem (t : Word) : (s.goto t).imem = s.imem := rfl
@[simp] theorem State.goto_dmem (t : Word) : (s.goto t).dmem = s.dmem := rfl
@[simp] theorem State.goto_waiting (t : Word) : (s.goto t).waiting = s.waiting := rfl
@[simp] theorem State.goto_params (t : Word) : (s.goto t).params = s.params := rfl
@[simp] theorem State.goto_draws (t : Word) : (s.goto t).draws = s.draws := rfl
@[simp] theorem State.goto_codeWord (t : Word) (a : Word) : (s.goto t).codeWord a = s.codeWord a := rfl
@[simp] theorem State.goto_dataWord (t : Word) (a : Word) : (s.goto t).dataWord a = s.dataWord a := rfl
@[simp] theorem State.goto_readReg (t : Word) (q : RegIx) : (s.goto t).readReg q = s.readReg q := rfl

/-! ## advance -/

@[simp] theorem State.advance_regs : (s.advance).regs = s.regs := rfl
@[simp] theorem State.advance_pc : (s.advance).pc = s.pc + 1#16 := rfl
@[simp] theorem State.advance_psr : (s.advance).psr = s.psr := rfl
@[simp] theorem State.advance_imem : (s.advance).imem = s.imem := rfl
@[simp] theorem State.advance_dmem : (s.advance).dmem = s.dmem := rfl
@[simp] theorem State.advance_waiting : (s.advance).waiting = s.waiting := rfl
@[simp] theorem State.advance_params : (s.advance).params = s.params := rfl
@[simp] theorem State.advance_draws : (s.advance).draws = s.draws := rfl
@[simp] theorem State.advance_codeWord (a : Word) : (s.advance).codeWord a = s.codeWord a := rfl
@[simp] theorem State.advance_dataWord (a : Word) : (s.advance).dataWord a = s.dataWord a := rfl
@[simp] theorem State.advance_readReg (q : RegIx) : (s.advance).readReg q = s.readReg q := rfl

/-! ## setPsr -/

@[simp] theorem State.setPsr_regs (p : Psr) : (s.setPsr p).regs = s.regs := rfl
@[simp] theorem State.setPsr_pc (p : Psr) : (s.setPsr p).pc = s.pc := rfl
@[simp] theorem State.setPsr_psr (p : Psr) : (s.setPsr p).psr = p := rfl
@[simp] theorem State.setPsr_imem (p : Psr) : (s.setPsr p).imem = s.imem := rfl
@[simp] theorem State.setPsr_dmem (p : Psr) : (s.setPsr p).dmem = s.dmem := rfl
@[simp] theorem State.setPsr_waiting (p : Psr) : (s.setPsr p).waiting = s.waiting := rfl
@[simp] theorem State.setPsr_params (p : Psr) : (s.setPsr p).params = s.params := rfl
@[simp] theorem State.setPsr_draws (p : Psr) : (s.setPsr p).draws = s.draws := rfl
@[simp] theorem State.setPsr_codeWord (p : Psr) (a : Word) : (s.setPsr p).codeWord a = s.codeWord a := rfl
@[simp] theorem State.setPsr_dataWord (p : Psr) (a : Word) : (s.setPsr p).dataWord a = s.dataWord a := rfl
@[simp] theorem State.setPsr_readReg (p : Psr) (q : RegIx) : (s.setPsr p).readReg q = s.readReg q := rfl

/-! ## countDraw -/

@[simp] theorem State.countDraw_regs : (s.countDraw).regs = s.regs := rfl
@[simp] theorem State.countDraw_pc : (s.countDraw).pc = s.pc := rfl
@[simp] theorem State.countDraw_psr : (s.countDraw).psr = s.psr := rfl
@[simp] theorem State.countDraw_imem : (s.countDraw).imem = s.imem := rfl
@[simp] theorem State.countDraw_dmem : (s.countDraw).dmem = s.dmem := rfl
@[simp] theorem State.countDraw_waiting : (s.countDraw).waiting = s.waiting := rfl
@[simp] theorem State.countDraw_params : (s.countDraw).params = s.params := rfl
@[simp] theorem State.countDraw_draws : (s.countDraw).draws = s.draws + 1 := rfl
@[simp] theorem State.countDraw_codeWord (a : Word) : (s.countDraw).codeWord a = s.codeWord a := rfl
@[simp] theorem State.countDraw_dataWord (a : Word) : (s.countDraw).dataWord a = s.dataWord a := rfl
@[simp] theorem State.countDraw_readReg (q : RegIx) : (s.countDraw).readReg q = s.readReg q := rfl

/-! ## suspend -/

@[simp] theorem State.suspend_regs : (s.suspend).regs = s.regs := rfl
@[simp] theorem State.suspend_pc : (s.suspend).pc = s.pc := rfl
@[simp] theorem State.suspend_psr : (s.suspend).psr = s.psr := rfl
@[simp] theorem State.suspend_imem : (s.suspend).imem = s.imem := rfl
@[simp] theorem State.suspend_dmem : (s.suspend).dmem = s.dmem := rfl
@[simp] theorem State.suspend_waiting : (s.suspend).waiting = true := rfl
@[simp] theorem State.suspend_params : (s.suspend).params = s.params := rfl
@[simp] theorem State.suspend_draws : (s.suspend).draws = s.draws := rfl
@[simp] theorem State.suspend_codeWord (a : Word) : (s.suspend).codeWord a = s.codeWord a := rfl
@[simp] theorem State.suspend_dataWord (a : Word) : (s.suspend).dataWord a = s.dataWord a := rfl
@[simp] theorem State.suspend_readReg (q : RegIx) : (s.suspend).readReg q = s.readReg q := rfl

/-! ## loadCode -/

@[simp] theorem State.loadCode_regs (start : Word) (ws : List Word) : (s.loadCode start ws).regs = s.regs := rfl
@[simp] theorem State.loadCode_pc (start : Word) (ws : List Word) : (s.loadCode start ws).pc = s.pc := rfl
@[simp] theorem State.loadCode_psr (start : Word) (ws : List Word) : (s.loadCode start ws).psr = s.psr := rfl
@[simp] theorem State.loadCode_imem (start : Word) (ws : List Word) : (s.loadCode start ws).imem = s.imem.writeAll start ws := rfl
@[simp] theorem State.loadCode_dmem (start : Word) (ws : List Word) : (s.loadCode start ws).dmem = s.dmem := rfl
@[simp] theorem State.loadCode_waiting (start : Word) (ws : List Word) : (s.loadCode start ws).waiting = s.waiting := rfl
@[simp] theorem State.loadCode_params (start : Word) (ws : List Word) : (s.loadCode start ws).params = s.params := rfl
@[simp] theorem State.loadCode_draws (start : Word) (ws : List Word) : (s.loadCode start ws).draws = s.draws := rfl
@[simp] theorem State.loadCode_readReg (start : Word) (ws : List Word) (q : RegIx) :
    (s.loadCode start ws).readReg q = s.readReg q := rfl

/-! ## loadData -/

@[simp] theorem State.loadData_regs (start : Word) (ws : List Word) : (s.loadData start ws).regs = s.regs := rfl
@[simp] theorem State.loadData_pc (start : Word) (ws : List Word) : (s.loadData start ws).pc = s.pc := rfl
@[simp] theorem State.loadData_psr (start : Word) (ws : List Word) : (s.loadData start ws).psr = s.psr := rfl
@[simp] theorem State.loadData_imem (start : Word) (ws : List Word) : (s.loadData start ws).imem = s.imem := rfl
@[simp] theorem State.loadData_dmem (start : Word) (ws : List Word) : (s.loadData start ws).dmem = s.dmem.writeAll start ws := rfl
@[simp] theorem State.loadData_waiting (start : Word) (ws : List Word) : (s.loadData start ws).waiting = s.waiting := rfl
@[simp] theorem State.loadData_params (start : Word) (ws : List Word) : (s.loadData start ws).params = s.params := rfl
@[simp] theorem State.loadData_draws (start : Word) (ws : List Word) : (s.loadData start ws).draws = s.draws := rfl
@[simp] theorem State.loadData_readReg (start : Word) (ws : List Word) (q : RegIx) :
    (s.loadData start ws).readReg q = s.readReg q := rfl
@[simp] theorem State.loadData_codeWord (start : Word) (ws : List Word) (a : Word) :
    (s.loadData start ws).codeWord a = s.codeWord a := rfl

/-! ## Reading a register after a write -/

@[simp] theorem State.readReg_writeReg_self (r : RegIx) (v : Word) : (s.writeReg r v).readReg r = v := by
  simp [State.readReg, State.writeReg]

theorem State.readReg_writeReg_of_ne (r q : RegIx) (v : Word) (h : q ≠ r) :
    (s.writeReg r v).readReg q = s.readReg q := by
  simp [State.readReg, State.writeReg, Fin.val_ne_of_ne (Ne.symm h)]

theorem State.readReg_writeReg (r q : RegIx) (v : Word) :
    (s.writeReg r v).readReg q = if q = r then v else s.readReg q := by
  split
  · next h => rw [h, readReg_writeReg_self]
  · next h => exact readReg_writeReg_of_ne s r q v h

/-! ## The state after reset -/

@[simp] theorem State.resetFrom_regs (d : ResetDraw) : (State.resetFrom d).regs = d.regs := rfl
@[simp] theorem State.resetFrom_pc (d : ResetDraw) : (State.resetFrom d).pc = d.resetPc := rfl
@[simp] theorem State.resetFrom_psr (d : ResetDraw) : (State.resetFrom d).psr = d.psr := rfl
@[simp] theorem State.resetFrom_imem (d : ResetDraw) : (State.resetFrom d).imem = [] := rfl
@[simp] theorem State.resetFrom_dmem (d : ResetDraw) : (State.resetFrom d).dmem = [] := rfl
@[simp] theorem State.resetFrom_waiting (d : ResetDraw) : (State.resetFrom d).waiting = false := rfl
@[simp] theorem State.resetFrom_params (d : ResetDraw) : (State.resetFrom d).params = d.params := rfl
@[simp] theorem State.resetFrom_draws (d : ResetDraw) : (State.resetFrom d).draws = 0 := rfl

end Sys2Proof.Machine
end

