-- ==== Sys2Proof/Laws/Memory.lean ====
section
/-!
SUPPORT. The laws of the memories: a read after a write, and that every memory operation keeps the canonical form.
-/

namespace Sys2Proof.Machine

/-! ## Reading after writing -/

@[simp] theorem Memory.read_write_self (m : Memory) (a : Nat) (v : Word) : (m.write a v).read a = some v := by
  induction m with
  | nil => simp [Memory.write, Memory.read]
  | cons x m ih =>
    simp only [Memory.write]
    split
    · simp [Memory.read]
    · split
      · simp [Memory.read]
      · next h => simpa [Memory.read, Ne.symm h] using ih

theorem Memory.read_write_of_ne (m : Memory) (a b : Nat) (v : Word) (h : b ≠ a) :
    (m.write a v).read b = m.read b := by
  induction m with
  | nil => simp [Memory.write, Memory.read, h.symm]
  | cons x m ih =>
    simp only [Memory.write]
    split
    · simp [Memory.read, h.symm]
    · split
      · next hk => subst hk; simp [Memory.read, h.symm]
      · simp [Memory.read, ih]

/-- Consecutive words leave an address alone that is none of theirs. -/
theorem Memory.read_writeAll_of_ne (m : Memory) (base a : Word) (ws : List Word)
    (h : ∀ k : Nat, k < ws.length → a ≠ base + BitVec.ofNat 16 k) : (m.writeAll base ws).read a.toNat = m.read a.toNat := by
  induction ws generalizing m base with
  | nil => rfl
  | cons w ws ih =>
    have hb : a ≠ base := by simpa using h 0 (by simp)
    rw [Memory.writeAll, ih _ _ fun k hk => ?_, Memory.read_write_of_ne _ _ _ _ (by rwa [ne_eq, BitVec.toNat_inj])]
    have := h (k + 1) (by simpa using hk)
    rwa [BitVec.ofNat_add, BitVec.add_comm (BitVec.ofNat 16 k), ← BitVec.add_assoc] at this

/-- Consecutive words, no more than there are addresses, are read back at their addresses. -/
theorem Memory.read_writeAll (m : Memory) (base : Word) (ws : List Word) (hl : ws.length ≤ 65536) (k : Nat)
    (hk : k < ws.length) : (m.writeAll base ws).read (base + BitVec.ofNat 16 k).toNat = some ws[k] := by
  induction ws generalizing m base k with
  | nil => simp at hk
  | cons w ws ih =>
    simp only [List.length_cons] at hl hk
    cases k with
    | zero =>
      have h : ∀ j : Nat, j < ws.length → base + BitVec.ofNat 16 0 ≠ base + 1#16 + BitVec.ofNat 16 j := by
        intro j hj he
        rw [BitVec.add_assoc, BitVec.add_right_inj] at he
        have := congrArg BitVec.toNat he
        simp at this
        omega
      rw [Memory.writeAll, Memory.read_writeAll_of_ne _ _ _ _ h]
      simp
    | succ k =>
      have := ih (m.write base.toNat w) (base + 1#16) (by omega) k (by omega)
      rwa [BitVec.add_assoc, BitVec.add_comm 1#16, ← BitVec.ofNat_add] at this

/-! ## The canonical form -/

theorem Memory.wf_nil : Memory.wf [] := by simp [Memory.wf]

/-- Every entry after a write is the written one or an old one. -/
theorem Memory.mem_write (m : Memory) (a : Nat) (v : Word) (x : Nat × Word) (h : x ∈ m.write a v) :
    x = (a, v) ∨ x ∈ m := by
  induction m with
  | nil => simpa [Memory.write] using h
  | cons y m ih =>
    simp only [Memory.write] at h
    split at h
    · simpa using h
    · split at h
      · simp only [List.mem_cons] at h ⊢
        tauto
      · simp only [List.mem_cons] at h ⊢
        rcases h with h | h
        · exact .inr (.inl h)
        · exact (ih h).imp id .inr

theorem Memory.write_wf (m : Memory) (a : Nat) (v : Word) (ha : a < 65536) (hm : m.wf) : (m.write a v).wf := by
  refine ⟨?_, fun x hx => ?_⟩
  · induction m with
    | nil => simp [Memory.write]
    | cons y m ih =>
      obtain ⟨hp, hb⟩ := hm
      obtain ⟨hy, hrest⟩ := List.pairwise_cons.mp hp
      simp only [Memory.write]
      split
      · next hlt =>
        refine List.pairwise_cons.mpr ⟨fun z hz => ?_, hp⟩
        rcases List.mem_cons.mp hz with rfl | hz
        · exact hlt
        · exact lt_trans hlt (hy z hz)
      · split
        · next heq => exact List.pairwise_cons.mpr ⟨fun z hz => heq ▸ hy z hz, hrest⟩
        · next hge hne =>
          refine List.pairwise_cons.mpr ⟨fun z hz => ?_, ih ⟨hrest, fun x hx => hb x (.tail _ hx)⟩⟩
          rcases Memory.mem_write m a v z hz with rfl | hz
          · simp only; omega
          · exact hy z hz
  · rcases Memory.mem_write m a v x hx with rfl | h
    · exact ha
    · exact hm.2 x h

theorem Memory.writeAll_wf (m : Memory) (base : Word) (ws : List Word) (hm : m.wf) : (m.writeAll base ws).wf := by
  induction ws generalizing m base with
  | nil => exact hm
  | cons w ws ih => exact ih _ _ (Memory.write_wf m base.toNat w base.isLt hm)

/-! ## The operations over State -/

/-- An address is valid exactly when it lies in no listed range. -/
theorem State.dmemValid_iff (s : State) (a : Word) :
    s.dmemValid a = true ↔ ∀ hole ∈ s.params.dmemHoles, a.toNat < hole.1 ∨ hole.2 < a.toNat := by
  simp [State.dmemValid]

/-- What a store can do: the address is valid, it is not a store into the code, and one word of DMEM changes. -/
theorem State.memWrite_ok (s t : State) (a v : Word) (h : s.memWrite a v = .ok t) :
    s.dmemValid a = true ∧ (s.params.unifiedMemory && s.inImage a) = false ∧
      t = { s with dmem := s.dmem.write a.toNat v } := by
  unfold State.memWrite at h
  split at h
  · next hv =>
    split at h
    · cases h
    · next hu => exact ⟨hv, by simpa using hu, by cases h; rfl⟩
  · cases h

/-- What a load can do: the address is valid and the word there has a value. -/
theorem State.memRead_ok (s : State) (a v : Word) (h : s.memRead a = .ok v) :
    s.dmemValid a = true ∧ s.dataWord a = some v := by
  unfold State.memRead at h
  split at h
  · next hv =>
    split at h
    · next hd => cases h; exact ⟨hv, hd⟩
    · cases h
  · cases h

theorem State.memWrite_inv (s t : State) (a v : Word) (h : s.memWrite a v = .ok t) (hs : s.Inv) : t.Inv := by
  obtain ⟨-, -, rfl⟩ := State.memWrite_ok s t a v h
  exact ⟨hs.1, Memory.write_wf _ _ _ a.isLt hs.2⟩

theorem State.loadCode_inv (s : State) (base : Word) (ws : List Word) (hs : s.Inv) : (s.loadCode base ws).Inv :=
  ⟨Memory.writeAll_wf _ _ _ hs.1, hs.2⟩

theorem State.loadData_inv (s : State) (base : Word) (ws : List Word) (hs : s.Inv) : (s.loadData base ws).Inv :=
  ⟨hs.1, Memory.writeAll_wf _ _ _ hs.2⟩

/-- The memories after reset are in canonical form: nothing is listed. -/
theorem reset_memories_wf : State.reset.imem.wf ∧ State.reset.dmem.wf := by decide

end Sys2Proof.Machine
end

