-- ==== Sys2Proof/Laws/Ops.lean ====
section
/-!
SUPPORT. For each shared shape of a meaning, one lemma that says all it does, in the words of Safety.lean. A proof about
an instruction cites these and does not unfold the shape.
-/

namespace Sys2Proof.Machine

theorem SameMemory.refl (s : State) : SameMemory s s := ⟨fun _ => rfl, fun _ => rfl⟩

theorem SameControl.refl (s : State) : SameControl s s := ⟨rfl, rfl, rfl⟩

/-- Writing a register, replacing the PSR and going on. -/
theorem regResult_of_write (s : State) (r : RegIx) (v : Word) (p : Psr) :
    RegResult s ((s.writeReg r v).setPsr p).advance r v p where
  regs := ⟨by simp, fun q h => by simp [State.readReg_writeReg_of_ne s r q v h]⟩
  psr := rfl
  pc := rfl
  memory := ⟨fun _ => rfl, fun _ => rfl⟩
  control := ⟨rfl, rfl, rfl⟩

theorem psrResult_of_setPsr (s : State) (p : Psr) : PsrResult s (s.setPsr p).advance p where
  regs := fun _ => rfl
  psr := rfl
  pc := rfl
  memory := ⟨fun _ => rfl, fun _ => rfl⟩
  control := ⟨rfl, rfl, rfl⟩

theorem pcResult_of_goto (s : State) (t : Word) : PcResult s (s.goto t) t where
  regs := fun _ => rfl
  psr := rfl
  pc := rfl
  memory := ⟨fun _ => rfl, fun _ => rfl⟩
  control := ⟨rfl, rfl, rfl⟩

theorem writeBack_result (r : RegIx) (v : Word) (s : State) :
    ∃ t, writeBack r v s = .next t ∧ RegResult s t r v s.psr :=
  ⟨_, rfl, regResult_of_write s r v s.psr⟩

theorem addWithFlags_result (r : RegIx) (b : Word) (c : Bool) (s : State) :
    ∃ t, addWithFlags r b c s = .next t ∧
      RegResult s t r (addValue (s.readReg r) b c) (addFlags (s.readReg r) b c s.psr) :=
  ⟨_, rfl, regResult_of_write s r _ _⟩

theorem subWithFlags_result (r : RegIx) (b : Word) (c : Bool) (s : State) :
    ∃ t, subWithFlags r b c s = .next t ∧
      RegResult s t r (subValue (s.readReg r) b c) (subFlags (s.readReg r) b c s.psr) :=
  ⟨_, rfl, regResult_of_write s r _ _⟩

theorem compareWith_result (r : RegIx) (b : Word) (s : State) :
    ∃ t, compareWith r b s = .next t ∧ PsrResult s t (cmpFlags (s.readReg r) b s.psr) :=
  ⟨_, rfl, psrResult_of_setPsr s _⟩

theorem shiftBy_inRange (shift : Word → Int → Word) (r : RegIx) (n : Int) (s : State) (h : -15 ≤ n ∧ n ≤ 15) :
    ∃ t, shiftBy shift r n s = .next t ∧ RegResult s t r (shift (s.readReg r) n) s.psr := by
  simpa [shiftBy, amountInRange, h] using writeBack_result r (shift (s.readReg r) n) s

theorem shiftBy_outOfRange (shift : Word → Int → Word) (r : RegIx) (n : Int) (s : State) (h : n < -15 ∨ 15 < n) :
    shiftBy shift r n s = .fault (.shiftAmountOutOfRange n) := by
  have : ¬(-15 ≤ n ∧ n ≤ 15) := by omega
  simp [shiftBy, amountInRange, this]

theorem testBit_inRange (r : RegIx) (k : Nat) (s : State) (h : k ≤ 15) :
    ∃ t, testBit r k s = .next t ∧ PsrResult s t (testBitFlags (s.readReg r) k s.psr) :=
  ⟨_, if_pos (by simpa [offsetInRange] using h), psrResult_of_setPsr s _⟩

theorem testBit_outOfRange (r : RegIx) (k : Nat) (s : State) (h : 15 < k) :
    testBit r k s = .fault (.bitOffsetOutOfRange k) := by
  simp [testBit, offsetInRange, Nat.not_le.mpr h]

theorem jumpIf_result (c : Cond) (target : Word) (s : State) :
    ∃ t, jumpIf c target s = .next t ∧ PcResult s t (if condHolds s.psr c then target else s.pc + 1#16) := by
  refine ⟨_, rfl, ?_⟩
  split
  · exact pcResult_of_goto s target
  · exact pcResult_of_goto s _

theorem withPsrNumber_eq (rproc : Fin 16) (s : State) (act : State → Result) (h : rproc = s.params.psrRproc) :
    withPsrNumber rproc s act = act s := if_pos h

theorem withPsrNumber_ne (rproc : Fin 16) (s : State) (act : State → Result) (h : rproc ≠ s.params.psrRproc) :
    withPsrNumber rproc s act = .fault (.unknownProcessorRegister rproc) := if_neg h

/-- What fetching and decoding can give: the word at the pc is in the image and is an instruction of the profile. -/
theorem State.fetchInstr_ok (s : State) (i : Instr) (h : s.fetchInstr = .ok i) :
    ∃ w, s.codeWord s.pc = some w ∧ decodeFor s.params.profile w = .ok i := by
  unfold State.fetchInstr State.iFetch at h
  cases hw : s.codeWord s.pc with
  | none => simp [hw] at h
  | some w =>
    cases hd : decodeFor s.params.profile w with
    | error e => simp [hw, hd] at h
    | ok j => simp [hw, hd] at h; exact ⟨w, rfl, h ▸ hd⟩

/-- What a step can do: it stays while waiting, and else it runs the instruction that the pc fetches. -/
theorem step_next_cases (s t : State) (h : step s = .next t) :
    (s.waiting = true ∧ t = s) ∨ (s.waiting = false ∧ ∃ i, s.fetchInstr = .ok i ∧ exec i s = .next t) := by
  unfold step at h
  split at h
  · next hw => cases h; exact .inl ⟨hw, rfl⟩
  · next hw =>
    split at h
    · next i hi => exact .inr ⟨by simpa using hw, i, hi, h⟩
    · cases h

end Sys2Proof.Machine
end

