-- ==== Sys2Proof/Laws/PerInstr.lean ====
section
/-!
SUPPORT. Laws stated once for each constructor of Instr.
-/

namespace Sys2Proof

/-- The mask of the instruction's row of spec/opcode_table.json: its fixed bits. -/
def rowMask : Instr → Word
  | .add .. => 0xF0F0#16
  | .addi .. => 0xF000#16
  | .addu .. => 0xF0F0#16
  | .addui .. => 0xF000#16
  | .addc .. => 0xF0F0#16
  | .addci .. => 0xF000#16
  | .mul .. => 0xF0F0#16
  | .muli .. => 0xF000#16
  | .sub .. => 0xF0F0#16
  | .subi .. => 0xF000#16
  | .subc .. => 0xF0F0#16
  | .subci .. => 0xF000#16
  | .cmp .. => 0xF0F0#16
  | .cmpi .. => 0xF000#16
  | .and .. => 0xF0F0#16
  | .andi .. => 0xF000#16
  | .or .. => 0xF0F0#16
  | .ori .. => 0xF000#16
  | .xor .. => 0xF0F0#16
  | .xori .. => 0xF000#16
  | .mov .. => 0xF0F0#16
  | .movi .. => 0xF000#16
  | .lsh .. => 0xF0F0#16
  | .lshi .. => 0xF0E0#16
  | .ashu .. => 0xF0F0#16
  | .ashui .. => 0xF0E0#16
  | .lui .. => 0xF000#16
  | .load .. => 0xF0F0#16
  | .stor .. => 0xF0F0#16
  | .snxb .. => 0xF0F0#16
  | .zrxb .. => 0xF0F0#16
  | .scond .. => 0xF0F0#16
  | .bcond .. => 0xF000#16
  | .jcond .. => 0xF0F0#16
  | .jal .. => 0xF0F0#16
  | .tbit .. => 0xF0F0#16
  | .tbiti .. => 0xF0F0#16
  | .lpr .. => 0xF0F0#16
  | .spr .. => 0xF0F0#16
  | .di => 0xFFFF#16
  | .ei => 0xFFFF#16
  | .excp .. => 0xFFF0#16
  | .retx => 0xFFFF#16
  | .wait => 0xFFFF#16

/-- The fixed bits of the instruction's row of spec/opcode_table.json. -/
def rowMatch : Instr → Word
  | .add .. => 0x0050#16
  | .addi .. => 0x5000#16
  | .addu .. => 0x0060#16
  | .addui .. => 0x6000#16
  | .addc .. => 0x0070#16
  | .addci .. => 0x7000#16
  | .mul .. => 0x00E0#16
  | .muli .. => 0xE000#16
  | .sub .. => 0x0090#16
  | .subi .. => 0x9000#16
  | .subc .. => 0x00A0#16
  | .subci .. => 0xA000#16
  | .cmp .. => 0x00B0#16
  | .cmpi .. => 0xB000#16
  | .and .. => 0x0010#16
  | .andi .. => 0x1000#16
  | .or .. => 0x0020#16
  | .ori .. => 0x2000#16
  | .xor .. => 0x0030#16
  | .xori .. => 0x3000#16
  | .mov .. => 0x00D0#16
  | .movi .. => 0xD000#16
  | .lsh .. => 0x8040#16
  | .lshi .. => 0x8000#16
  | .ashu .. => 0x8060#16
  | .ashui .. => 0x8020#16
  | .lui .. => 0xF000#16
  | .load .. => 0x4000#16
  | .stor .. => 0x4040#16
  | .snxb .. => 0x4020#16
  | .zrxb .. => 0x4060#16
  | .scond .. => 0x40D0#16
  | .bcond .. => 0xC000#16
  | .jcond .. => 0x40C0#16
  | .jal .. => 0x4080#16
  | .tbit .. => 0x40A0#16
  | .tbiti .. => 0x40E0#16
  | .lpr .. => 0x4010#16
  | .spr .. => 0x4050#16
  | .di => 0x4030#16
  | .ei => 0x4070#16
  | .excp .. => 0x40B0#16
  | .retx => 0x4090#16
  | .wait => 0x0000#16

namespace Laws.TableRow

/-- The encoding of an instruction has the fixed bits that its row of spec/opcode_table.json gives. -/
def Statement (i : Instr) : Prop := encode i &&& rowMask i = rowMatch i

/-- Fixed bits of the format of four nibbles whose `op` and `ext` are constant. -/
theorem nibbles_mask (op a ext b : Nibble) : packNibbles op a ext b &&& 0xF0F0#16 = packNibbles op 0#4 ext 0#4 := by
  rw [show 0xF0F0#16 = packNibbles (.allOnes 4) 0#4 (.allOnes 4) 0#4 from rfl, packNibbles_and]
  simp only [BitVec.and_allOnes, BitVec.and_zero]

/-- Fixed bits of the format with a byte. -/
theorem immediate_mask (op a : Nibble) (imm : BitVec 8) :
    packImmediate op a imm &&& 0xF000#16 = packImmediate op 0#4 0#8 := by
  rw [show 0xF000#16 = packImmediate (.allOnes 4) 0#4 0#8 from rfl, packImmediate_and]
  simp only [BitVec.and_allOnes, BitVec.and_zero]

/-- Fixed bits of the shift immediates. -/
theorem shift_mask (a : Nibble) (kind : BitVec 1) (amount : BitVec 5) :
    packShift a kind amount &&& 0xF0E0#16 = packShift 0#4 kind 0#5 := by
  have h : (0b00#2 ++ kind ++ amount.extractLsb' 4 1 : Nibble) &&& 0xE#4 = 0b00#2 ++ kind ++ 0#1 := by
    generalize amount.extractLsb' 4 1 = sign
    revert kind sign
    decide
  rw [packShift_eq, packShift_eq, show 0xF0E0#16 = packNibbles (.allOnes 4) 0#4 0xE#4 0#4 from rfl, packNibbles_and, h]
  simp

/-- Fixed bits of EXCP. -/
theorem vector_mask (b : Nibble) : packNibbles 0x4#4 0x0#4 0xB#4 b &&& 0xFFF0#16 = 0x40B0#16 := by
  revert b
  decide

theorem add (rdest rsrc : RegIx) : Statement (.add rdest rsrc) := nibbles_mask _ _ _ _
theorem addi (rdest : RegIx) (imm : BitVec 8) : Statement (.addi rdest imm) := immediate_mask _ _ _
theorem addu (rdest rsrc : RegIx) : Statement (.addu rdest rsrc) := nibbles_mask _ _ _ _
theorem addui (rdest : RegIx) (imm : BitVec 8) : Statement (.addui rdest imm) := immediate_mask _ _ _
theorem addc (rdest rsrc : RegIx) : Statement (.addc rdest rsrc) := nibbles_mask _ _ _ _
theorem addci (rdest : RegIx) (imm : BitVec 8) : Statement (.addci rdest imm) := immediate_mask _ _ _
theorem mul (rdest rsrc : RegIx) : Statement (.mul rdest rsrc) := nibbles_mask _ _ _ _
theorem muli (rdest : RegIx) (imm : BitVec 8) : Statement (.muli rdest imm) := immediate_mask _ _ _
theorem sub (rdest rsrc : RegIx) : Statement (.sub rdest rsrc) := nibbles_mask _ _ _ _
theorem subi (rdest : RegIx) (imm : BitVec 8) : Statement (.subi rdest imm) := immediate_mask _ _ _
theorem subc (rdest rsrc : RegIx) : Statement (.subc rdest rsrc) := nibbles_mask _ _ _ _
theorem subci (rdest : RegIx) (imm : BitVec 8) : Statement (.subci rdest imm) := immediate_mask _ _ _
theorem cmp (rdest rsrc : RegIx) : Statement (.cmp rdest rsrc) := nibbles_mask _ _ _ _
theorem cmpi (rdest : RegIx) (imm : BitVec 8) : Statement (.cmpi rdest imm) := immediate_mask _ _ _
theorem and (rdest rsrc : RegIx) : Statement (.and rdest rsrc) := nibbles_mask _ _ _ _
theorem andi (rdest : RegIx) (imm : BitVec 8) : Statement (.andi rdest imm) := immediate_mask _ _ _
theorem or (rdest rsrc : RegIx) : Statement (.or rdest rsrc) := nibbles_mask _ _ _ _
theorem ori (rdest : RegIx) (imm : BitVec 8) : Statement (.ori rdest imm) := immediate_mask _ _ _
theorem xor (rdest rsrc : RegIx) : Statement (.xor rdest rsrc) := nibbles_mask _ _ _ _
theorem xori (rdest : RegIx) (imm : BitVec 8) : Statement (.xori rdest imm) := immediate_mask _ _ _
theorem mov (rdest rsrc : RegIx) : Statement (.mov rdest rsrc) := nibbles_mask _ _ _ _
theorem movi (rdest : RegIx) (imm : BitVec 8) : Statement (.movi rdest imm) := immediate_mask _ _ _
theorem lsh (rdest ramount : RegIx) : Statement (.lsh rdest ramount) := nibbles_mask _ _ _ _
theorem lshi (rdest : RegIx) (amount : BitVec 5) : Statement (.lshi rdest amount) := shift_mask _ _ _
theorem ashu (rdest ramount : RegIx) : Statement (.ashu rdest ramount) := nibbles_mask _ _ _ _
theorem ashui (rdest : RegIx) (amount : BitVec 5) : Statement (.ashui rdest amount) := shift_mask _ _ _
theorem lui (rdest : RegIx) (imm : BitVec 8) : Statement (.lui rdest imm) := immediate_mask _ _ _
theorem load (rdest raddr : RegIx) : Statement (.load rdest raddr) := nibbles_mask _ _ _ _
theorem stor (rsrc raddr : RegIx) : Statement (.stor rsrc raddr) := nibbles_mask _ _ _ _
theorem snxb (rdest rsrc : RegIx) : Statement (.snxb rdest rsrc) := nibbles_mask _ _ _ _
theorem zrxb (rdest rsrc : RegIx) : Statement (.zrxb rdest rsrc) := nibbles_mask _ _ _ _
theorem scond (rdest : RegIx) (cond : Cond) : Statement (.scond rdest cond) := nibbles_mask _ _ _ _
theorem bcond (cond : Cond) (disp : BitVec 8) : Statement (.bcond cond disp) := immediate_mask _ _ _
theorem jcond (cond : Cond) (rtarget : RegIx) : Statement (.jcond cond rtarget) := nibbles_mask _ _ _ _
theorem jal (rlink rtarget : RegIx) : Statement (.jal rlink rtarget) := nibbles_mask _ _ _ _
theorem tbit (rsrc roffset : RegIx) : Statement (.tbit rsrc roffset) := nibbles_mask _ _ _ _
theorem tbiti (rsrc : RegIx) (offset : Fin 16) : Statement (.tbiti rsrc offset) := nibbles_mask _ _ _ _
theorem lpr (rsrc : RegIx) (rproc : Fin 16) : Statement (.lpr rsrc rproc) := nibbles_mask _ _ _ _
theorem spr (rproc : Fin 16) (rdest : RegIx) : Statement (.spr rproc rdest) := nibbles_mask _ _ _ _
theorem di : Statement .di := rfl
theorem ei : Statement .ei := rfl
theorem excp (vector : Fin 16) : Statement (.excp vector) := vector_mask _
theorem retx : Statement .retx := rfl
theorem wait : Statement .wait := rfl

end Laws.TableRow

end Sys2Proof
end

