-- ==== Sys2Proof/Tests/Slice0.lean ====
section
/-!
SUPPORT. The model's own tests: ill-formed terms, the decoding of one word of every constructor written out from
30_encoding.md R73, one step of every instruction on vectors V<n> of 95_test_vectors.md, and for every obligation with
hypotheses a concrete state and operands that meet them. Expected values are the spec's, not the model's.
-/

namespace Sys2Proof.Tests

open Sys2Proof.Machine

/-! ## A small machine -/

/-- PROFILE full, separate memories, no cell from 0x4000 to 0x4FFF, BRANCH_BASE = 0, PSR_RPROC = 9. -/
def someParams : Params where
  profile := .full
  unifiedMemory := false
  dmemHoles := [(0x4000, 0x4FFF)]
  branchBase := .thisInstruction
  psrRproc := 9

/-- A machine at pc = 0x0100 with the registers given (the others 0xA5A5), a PSR image and one data word, 0xCAFE at
0x0200. -/
def machine (given : List (RegIx × Word)) (psr : Word) : State where
  regs := given.foldl (fun regs g => regs.set g.1 g.2) (Vector.replicate 16 0xA5A5#16)
  pc := 0x0100#16
  psr := Psr.ofWord psr
  imem := []
  dmem := [(0x0200, 0xCAFE#16)]
  waiting := false
  params := someParams
  draws := 0

/-- A machine with BRANCH_BASE = 1. -/
def nextBase (s : State) : State := { s with params := { s.params with branchBase := .nextInstruction } }

/-- A machine with UNIFIED_MEMORY = true. -/
def unified (s : State) : State := { s with params := { s.params with unifiedMemory := true } }

/-- A machine with PROFILE = baseline. -/
def baselineOnly (s : State) : State := { s with params := { s.params with profile := .baseline } }

/-- A machine with the spec's DMEM_VALID: no range listed. -/
def whole (s : State) : State := { s with params := { s.params with dmemHoles := [] } }

/-- A machine at another pc. -/
def atPc (pc : Word) (s : State) : State := s.goto pc

/-- One step at the word `w`. -/
def stepOf (w : Word) (s : State) : Result := step (s.withFetchWord 16 w.toNat)

/-- What a next state shows: a register, the PSR image and the pc. -/
def seen (r : RegIx) : Result → Option (Word × Word × Word)
  | .next t => some (t.readReg r, Psr.image 0#4 t.psr, t.pc)
  | .fault _ => none
  | .refused _ => none

/-- The data word a next state holds at an address. -/
def stored (a : Word) : Result → Option Word
  | .next t => t.dataWord a
  | .fault _ => none
  | .refused _ => none

/-- The fault, if the step faulted. -/
def faultOf : Result → Option Fault
  | .next _ => none
  | .fault f => some f
  | .refused _ => none

/-- The refusal, if the step was refused. -/
def refusalOf : Result → Option Refusal
  | .next _ => none
  | .fault _ => none
  | .refused r => some r

/-! ## Ill-formed terms (00_scope.md R7; 42_shift_lui.md R140) -/

theorem test_wellFormed_accepts :
    (Instr.add 2 1).wellFormed .baseline = true ∧ (Instr.lshi 2 0b10001#5).wellFormed .baseline = true ∧
    (Instr.ashui 2 0b01111#5).wellFormed .full = true ∧ Instr.wait.wellFormed .full = true := by decide

theorem test_wellFormed_refuses_other_profile :
    (Instr.addu 2 1).wellFormed .baseline = false ∧ Instr.wait.wellFormed .baseline = false := by decide

theorem test_wellFormed_refuses_shift_immediate :
    (Instr.lshi 2 0b10000#5).wellFormed .full = false ∧ (Instr.ashui 2 0b10000#5).wellFormed .full = false := by decide

/-! ## Decoding: one word of every constructor, written out from 30_encoding.md R73 -/

theorem test_decode_add_family :
    decode 0b0000001001010001#16 = .ok (.add 2 1) ∧ decode 0b0101001010000001#16 = .ok (.addi 2 0x81#8) ∧
    decode 0b0000001001100001#16 = .ok (.addu 2 1) ∧ decode 0b0110001010000001#16 = .ok (.addui 2 0x81#8) ∧
    decode 0b0000001001110001#16 = .ok (.addc 2 1) ∧ decode 0b0111001010000001#16 = .ok (.addci 2 0x81#8) ∧
    decode 0b0000001011100001#16 = .ok (.mul 2 1) ∧ decode 0b1110001010000001#16 = .ok (.muli 2 0x81#8) := by decide

theorem test_decode_sub_family :
    decode 0b0000001010010001#16 = .ok (.sub 2 1) ∧ decode 0b1001001010000001#16 = .ok (.subi 2 0x81#8) ∧
    decode 0b0000001010100001#16 = .ok (.subc 2 1) ∧ decode 0b1010001010000001#16 = .ok (.subci 2 0x81#8) ∧
    decode 0b0000001010110001#16 = .ok (.cmp 2 1) ∧ decode 0b1011001010000001#16 = .ok (.cmpi 2 0x81#8) := by decide

theorem test_decode_logical_family :
    decode 0b0000001000010001#16 = .ok (.and 2 1) ∧ decode 0b0001001010000001#16 = .ok (.andi 2 0x81#8) ∧
    decode 0b0000001000100001#16 = .ok (.or 2 1) ∧ decode 0b0010001010000001#16 = .ok (.ori 2 0x81#8) ∧
    decode 0b0000001000110001#16 = .ok (.xor 2 1) ∧ decode 0b0011001010000001#16 = .ok (.xori 2 0x81#8) ∧
    decode 0b0000001011010001#16 = .ok (.mov 2 1) ∧ decode 0b1101001010000001#16 = .ok (.movi 2 0x81#8) := by decide

theorem test_decode_shift_family :
    decode 0b1000001001000001#16 = .ok (.lsh 2 1) ∧ decode 0b1000001000011100#16 = .ok (.lshi 2 0b11100#5) ∧
    decode 0b1000001001100001#16 = .ok (.ashu 2 1) ∧ decode 0b1000001000101000#16 = .ok (.ashui 2 0b01000#5) ∧
    decode 0b1111001010101011#16 = .ok (.lui 2 0xAB#8) := by decide

theorem test_decode_memory_family :
    decode 0b0100001000000001#16 = .ok (.load 2 1) ∧ decode 0b0100001001000001#16 = .ok (.stor 2 1) ∧
    decode 0b0100001000100001#16 = .ok (.snxb 2 1) ∧ decode 0b0100001001100001#16 = .ok (.zrxb 2 1) := by decide

theorem test_decode_control_family :
    decode 0b0100001011010111#16 = .ok (.scond 2 .le) ∧ decode 0b1100011111111101#16 = .ok (.bcond .le 0xFD#8) ∧
    decode 0b0100110111000011#16 = .ok (.jcond .ge 3) ∧ decode 0b0100111110000011#16 = .ok (.jal 15 3) := by decide

theorem test_decode_bit_psr_family :
    decode 0b0100001010100001#16 = .ok (.tbit 2 1) ∧ decode 0b0100001011101111#16 = .ok (.tbiti 2 15) ∧
    decode 0b0100001000011001#16 = .ok (.lpr 2 9) ∧ decode 0b0100100101010010#16 = .ok (.spr 9 2) := by decide

theorem test_decode_system_family :
    decode 0b0100000000110000#16 = .ok .di ∧ decode 0b0100000001110000#16 = .ok .ei ∧
    decode 0b0100000010110111#16 = .ok (.excp 7) ∧ decode 0b0100000010010000#16 = .ok .retx ∧
    decode 0b0000000000000000#16 = .ok .wait := by decide

/-- V554 to V563: unused opcodes. -/
theorem test_decode_unused :
    [0x0040#16, 0x0F8F#16, 0x00C0#16, 0x00F0#16, 0x40F0#16, 0x4FFF#16, 0x8050#16, 0x8070#16, 0x8080#16, 0x8FFF#16].map decode
      = List.replicate 10 (.error .unusedOpcode) := by decide

/-- V542, V543, V545, V546, V548, V550, V553: a constant nibble is not zero. -/
theorem test_decode_constant :
    [0x0100#16, 0x0001#16, 0x4130#16, 0x4031#16, 0x4071#16, 0x4190#16, 0x41B0#16].map decode
      = List.replicate 7 (.error .constantNibble) := by decide

/-- The words of 30_encoding.md R73 are what the encoder gives. -/
theorem test_encode :
    encode (.add 2 1) = 0x0251#16 ∧ encode (.lshi 2 0b11100#5) = 0x821C#16 ∧ encode (.ashui 2 0b11000#5) = 0x8238#16 ∧
    encode (.spr 9 2) = 0x4952#16 ∧ encode (.bcond .ne 0xFD#8) = 0xC1FD#16 := by decide

theorem test_decodeTableWord :
    decodeTableWord 16 0x0251 = some (.add 2 1) ∧ decodeTableWord 16 0x0040 = none := by decide

/-! ## One step of every instruction (95_test_vectors.md part 2). PSR images: C = 0x0001, T = 0x0002, L = 0x0004,
F = 0x0020, Z = 0x0040, N = 0x0080, E = 0x0200, P = 0x0400, I = 0x0800 -/

/-- V1, V4. -/
theorem test_add :
    seen 2 (stepOf 0x0251#16 (machine [(1, 0x1111#16), (2, 0x1234#16)] 0x0E21#16)) =
      some (0x2345#16, 0x0E00#16, 0x0101#16) ∧
    seen 2 (stepOf 0x0251#16 (machine [(1, 0x8000#16), (2, 0x8000#16)] 0x00C4#16)) =
      some (0x0000#16, 0x00E5#16, 0x0101#16) := by decide

/-- V10, V11. -/
theorem test_addi :
    seen 2 (stepOf 0x527F#16 (machine [(2, 0x7FF0#16)] 0x0000#16)) = some (0x806F#16, 0x0020#16, 0x0101#16) ∧
    seen 2 (stepOf 0x5280#16 (machine [(2, 0x8000#16)] 0x0000#16)) = some (0x7F80#16, 0x0021#16, 0x0101#16) := by decide

/-- V13, V14. -/
theorem test_addu :
    seen 2 (stepOf 0x0261#16 (machine [(1, 0x0001#16), (2, 0xFFFF#16)] 0x0000#16)) =
      some (0x0000#16, 0x0000#16, 0x0101#16) ∧
    seen 2 (stepOf 0x0261#16 (machine [(1, 0x7FFF#16), (2, 0x7FFF#16)] 0x0001#16)) =
      some (0xFFFE#16, 0x0001#16, 0x0101#16) := by decide

/-- V15, V16. -/
theorem test_addui :
    seen 2 (stepOf 0x62FF#16 (machine [(2, 0x0000#16)] 0x0020#16)) = some (0xFFFF#16, 0x0020#16, 0x0101#16) ∧
    seen 2 (stepOf 0x6280#16 (machine [(2, 0x0100#16)] 0x0000#16)) = some (0x0080#16, 0x0000#16, 0x0101#16) := by decide

/-- V19, V20. -/
theorem test_addc :
    seen 2 (stepOf 0x0271#16 (machine [(1, 0x0000#16), (2, 0xFFFF#16)] 0x0001#16)) =
      some (0x0000#16, 0x0001#16, 0x0101#16) ∧
    seen 2 (stepOf 0x0271#16 (machine [(1, 0x0000#16), (2, 0x7FFF#16)] 0x0001#16)) =
      some (0x8000#16, 0x0020#16, 0x0101#16) := by decide

/-- V23, V24. -/
theorem test_addci :
    seen 2 (stepOf 0x72FF#16 (machine [(2, 0x0000#16)] 0x0001#16)) = some (0x0000#16, 0x0001#16, 0x0101#16) ∧
    seen 2 (stepOf 0x72FF#16 (machine [(2, 0x8000#16)] 0x0000#16)) = some (0x7FFF#16, 0x0021#16, 0x0101#16) := by decide

/-- V25, V30. -/
theorem test_mul :
    seen 2 (stepOf 0x02E1#16 (machine [(1, 0x5678#16), (2, 0x1234#16)] 0x0021#16)) =
      some (0x0060#16, 0x0021#16, 0x0101#16) ∧
    seen 2 (stepOf 0x02E2#16 (machine [(2, 0x00FF#16)] 0x0000#16)) = some (0xFE01#16, 0x0000#16, 0x0101#16) := by decide

/-- V31, V33. -/
theorem test_muli :
    seen 2 (stepOf 0xE27F#16 (machine [(2, 0x0202#16)] 0x0000#16)) = some (0xFEFE#16, 0x0000#16, 0x0101#16) ∧
    seen 2 (stepOf 0xE280#16 (machine [(2, 0x0003#16)] 0x0000#16)) = some (0xFE80#16, 0x0000#16, 0x0101#16) := by decide

/-- V36, V37. -/
theorem test_sub :
    seen 2 (stepOf 0x0291#16 (machine [(1, 0x0001#16), (2, 0x8000#16)] 0x0000#16)) =
      some (0x7FFF#16, 0x0020#16, 0x0101#16) ∧
    seen 2 (stepOf 0x0291#16 (machine [(1, 0xFFFF#16), (2, 0x7FFF#16)] 0x0000#16)) =
      some (0x8000#16, 0x0021#16, 0x0101#16) := by decide

/-- V42, V44. -/
theorem test_subi :
    seen 2 (stepOf 0x92FF#16 (machine [(2, 0x0000#16)] 0x0000#16)) = some (0x0001#16, 0x0001#16, 0x0101#16) ∧
    seen 2 (stepOf 0x9280#16 (machine [(2, 0xFF80#16)] 0x0021#16)) = some (0x0000#16, 0x0000#16, 0x0101#16) := by decide

/-- V47, V49. -/
theorem test_subc :
    seen 2 (stepOf 0x02A1#16 (machine [(1, 0x0000#16), (2, 0x0000#16)] 0x0001#16)) =
      some (0xFFFF#16, 0x0001#16, 0x0101#16) ∧
    seen 2 (stepOf 0x02A1#16 (machine [(1, 0x0000#16), (2, 0x8000#16)] 0x0001#16)) =
      some (0x7FFF#16, 0x0020#16, 0x0101#16) := by decide

/-- V50, V51. -/
theorem test_subci :
    seen 2 (stepOf 0xA201#16 (machine [(2, 0x0001#16)] 0x0001#16)) = some (0xFFFF#16, 0x0001#16, 0x0101#16) ∧
    seen 2 (stepOf 0xA2FF#16 (machine [(2, 0x7FFF#16)] 0x0000#16)) = some (0x8000#16, 0x0021#16, 0x0101#16) := by decide

/-- V53, V57. -/
theorem test_cmp :
    seen 2 (stepOf 0x02B1#16 (machine [(1, 0x0005#16), (2, 0x0003#16)] 0x0061#16)) =
      some (0x0003#16, 0x00A5#16, 0x0101#16) ∧
    seen 2 (stepOf 0x02B1#16 (machine [(1, 0x0001#16), (2, 0xFFFF#16)] 0x0004#16)) =
      some (0xFFFF#16, 0x0080#16, 0x0101#16) := by decide

/-- V64, V65. -/
theorem test_cmpi :
    seen 2 (stepOf 0xB2FF#16 (machine [(2, 0x0005#16)] 0x00C0#16)) = some (0x0005#16, 0x0004#16, 0x0101#16) ∧
    seen 2 (stepOf 0xB2FF#16 (machine [(2, 0xFFFF#16)] 0x0084#16)) = some (0xFFFF#16, 0x0040#16, 0x0101#16) := by decide

/-- V101; V104. -/
theorem test_and_andi :
    seen 2 (stepOf 0x0211#16 (machine [(1, 0x0FF0#16), (2, 0xABCD#16)] 0x0041#16)) =
      some (0x0BC0#16, 0x0041#16, 0x0101#16) ∧
    seen 2 (stepOf 0x12F0#16 (machine [(2, 0xABCD#16)] 0x0000#16)) = some (0x00C0#16, 0x0000#16, 0x0101#16) := by decide

/-- V107; V109. -/
theorem test_or_ori :
    seen 2 (stepOf 0x0221#16 (machine [(1, 0x0F0F#16), (2, 0xA0A0#16)] 0x0000#16)) =
      some (0xAFAF#16, 0x0000#16, 0x0101#16) ∧
    seen 2 (stepOf 0x2280#16 (machine [(2, 0x1200#16)] 0x0000#16)) = some (0x1280#16, 0x0000#16, 0x0101#16) := by decide

/-- V108: the NOP. -/
theorem test_nop :
    seen 0 (stepOf 0x0020#16 (machine [(0, 0x1234#16)] 0x00A1#16)) = some (0x1234#16, 0x00A1#16, 0x0101#16) := by decide

/-- V111; V113. -/
theorem test_xor_xori :
    seen 2 (stepOf 0x0231#16 (machine [(1, 0xFFFF#16), (2, 0xA5A5#16)] 0x0000#16)) =
      some (0x5A5A#16, 0x0000#16, 0x0101#16) ∧
    seen 2 (stepOf 0x32FF#16 (machine [(2, 0xA5A5#16)] 0x0000#16)) = some (0xA55A#16, 0x0000#16, 0x0101#16) := by decide

/-- V115; V118. -/
theorem test_mov_movi :
    seen 2 (stepOf 0x02D1#16 (machine [(1, 0xBEEF#16), (2, 0x0000#16)] 0x0000#16)) =
      some (0xBEEF#16, 0x0000#16, 0x0101#16) ∧
    seen 2 (stepOf 0xD280#16 (machine [] 0x0000#16)) = some (0x0080#16, 0x0000#16, 0x0101#16) := by decide

/-- V202, V203. -/
theorem test_lsh :
    seen 2 (stepOf 0x8241#16 (machine [(1, 0xFFFC#16), (2, 0x8001#16)] 0x0000#16)) =
      some (0x0800#16, 0x0000#16, 0x0101#16) ∧
    seen 2 (stepOf 0x8241#16 (machine [(1, 0x000F#16), (2, 0x8001#16)] 0x0000#16)) =
      some (0x8000#16, 0x0000#16, 0x0101#16) := by decide

/-- V206, V207. -/
theorem test_lsh_out_of_range :
    faultOf (stepOf 0x8241#16 (machine [(1, 0x0010#16)] 0x0000#16)) = some (.shiftAmountOutOfRange 16) ∧
    faultOf (stepOf 0x8241#16 (machine [(1, 0xFFF0#16)] 0x0000#16)) = some (.shiftAmountOutOfRange (-16)) := by decide

/-- V210, V212. -/
theorem test_lshi :
    seen 2 (stepOf 0x8208#16 (machine [(2, 0x8001#16)] 0x0000#16)) = some (0x0100#16, 0x0000#16, 0x0101#16) ∧
    seen 2 (stepOf 0x821C#16 (machine [(2, 0x8001#16)] 0x0000#16)) = some (0x0800#16, 0x0000#16, 0x0101#16) := by decide

/-- V216. -/
theorem test_lshi_out_of_range :
    faultOf (stepOf 0x8210#16 (machine [] 0x0000#16)) = some (.shiftAmountOutOfRange (-16)) := by decide

/-- V217, V221. -/
theorem test_ashu :
    seen 2 (stepOf 0x8261#16 (machine [(1, 0xFFFC#16), (2, 0x8001#16)] 0x0000#16)) =
      some (0xF800#16, 0x0000#16, 0x0101#16) ∧
    seen 2 (stepOf 0x8261#16 (machine [(1, 0x0001#16), (2, 0x4000#16)] 0x0000#16)) =
      some (0x8000#16, 0x0000#16, 0x0101#16) := by decide

/-- V225, V227. -/
theorem test_ashui :
    seen 2 (stepOf 0x8238#16 (machine [(2, 0x8001#16)] 0x0000#16)) = some (0xFF80#16, 0x0000#16, 0x0101#16) ∧
    seen 2 (stepOf 0x8221#16 (machine [(2, 0x8001#16)] 0x0000#16)) = some (0x0002#16, 0x0000#16, 0x0101#16) := by decide

/-- V230. -/
theorem test_lui :
    seen 2 (stepOf 0xF2AB#16 (machine [(2, 0x1234#16)] 0x0000#16)) = some (0xAB00#16, 0x0000#16, 0x0101#16) := by decide

/-- V301; V304. -/
theorem test_load :
    seen 2 (stepOf 0x4201#16 (machine [(1, 0x0200#16)] 0x0000#16)) = some (0xCAFE#16, 0x0000#16, 0x0101#16) ∧
    faultOf (stepOf 0x4201#16 (machine [(1, 0x0201#16)] 0x0000#16)) = some (.readOfUnwrittenState (.dmem 0x0201#16)) := by
  decide

/-- V305; V306 with the word next to it. -/
theorem test_stor :
    stored 0x0200#16 (stepOf 0x4241#16 (machine [(1, 0x0200#16), (2, 0xBEEF#16)] 0x0000#16)) = some 0xBEEF#16 ∧
    stored 0x0200#16 (stepOf 0x4141#16 (machine [(1, 0x01FF#16)] 0x0000#16)) = some 0xCAFE#16 := by decide

/-- V308; V311. -/
theorem test_snxb_zrxb :
    seen 2 (stepOf 0x4221#16 (machine [(1, 0x1280#16)] 0x0000#16)) = some (0xFF80#16, 0x0000#16, 0x0101#16) ∧
    seen 2 (stepOf 0x4261#16 (machine [(1, 0x1280#16)] 0x0000#16)) = some (0x0080#16, 0x0000#16, 0x0101#16) := by decide

/-- V402, V404. -/
theorem test_scond :
    seen 2 (stepOf 0x42D0#16 (machine [(2, 0xFFFF#16)] 0x0000#16)) = some (0x0000#16, 0x0000#16, 0x0101#16) ∧
    seen 2 (stepOf 0x42DA#16 (machine [] 0x0000#16)) = some (0x0001#16, 0x0000#16, 0x0101#16) := by decide

/-- V426 for both values of BRANCH_BASE. -/
theorem test_bcond_taken :
    seen 0 (stepOf 0xCE80#16 (atPc 0x0010#16 (machine [] 0x0000#16))) = some (0xA5A5#16, 0x0000#16, 0xFF90#16) ∧
    seen 0 (stepOf 0xCE80#16 (atPc 0x0010#16 (nextBase (machine [] 0x0000#16)))) =
      some (0xA5A5#16, 0x0000#16, 0xFF91#16) := by decide

/-- V431 for both values of BRANCH_BASE. -/
theorem test_bcond_not_taken :
    seen 0 (stepOf 0xC1FD#16 (atPc 0x0005#16 (machine [] 0x0040#16))) = some (0xA5A5#16, 0x0040#16, 0x0006#16) ∧
    seen 0 (stepOf 0xC1FD#16 (atPc 0x0005#16 (nextBase (machine [] 0x0040#16)))) =
      some (0xA5A5#16, 0x0040#16, 0x0006#16) := by decide

/-- V462, V463. -/
theorem test_jcond :
    seen 3 (stepOf 0x40C3#16 (machine [(3, 0x0ABC#16)] 0x0000#16)) = some (0x0ABC#16, 0x0000#16, 0x0101#16) ∧
    seen 3 (stepOf 0x40C3#16 (machine [(3, 0x0ABC#16)] 0x0040#16)) = some (0x0ABC#16, 0x0040#16, 0x0ABC#16) := by decide

/-- V468, V469. -/
theorem test_jal :
    seen 3 (stepOf 0x4383#16 (machine [(3, 0x0400#16)] 0x0000#16)) = some (0x0101#16, 0x0000#16, 0x0400#16) ∧
    seen 15 (stepOf 0x4F83#16 (atPc 0xFFFF#16 (machine [(3, 0x0400#16)] 0x0000#16))) =
      some (0x0000#16, 0x0000#16, 0x0400#16) := by decide

/-- V483; V485. -/
theorem test_tbit :
    seen 2 (stepOf 0x42A1#16 (machine [(1, 0x000F#16), (2, 0x8001#16)] 0x0041#16)) =
      some (0x8001#16, 0x0061#16, 0x0101#16) ∧
    faultOf (stepOf 0x42A1#16 (machine [(1, 0x0010#16)] 0x0000#16)) = some (.bitOffsetOutOfRange 16) := by decide

/-- V489, V491. -/
theorem test_tbiti :
    seen 2 (stepOf 0x42EE#16 (machine [(2, 0x8001#16)] 0x0020#16)) = some (0x8001#16, 0x0000#16, 0x0101#16) ∧
    seen 2 (stepOf 0x42E9#16 (machine [(2, 0x0210#16)] 0x0000#16)) = some (0x0210#16, 0x0020#16, 0x0101#16) := by decide

/-- V502; V506. -/
theorem test_lpr :
    seen 2 (stepOf 0x4219#16 (machine [(2, 0xFFFF#16)] 0x0000#16)) = some (0xFFFF#16, 0x0EE7#16, 0x0101#16) ∧
    faultOf (stepOf 0x421A#16 (machine [] 0x0000#16)) = some (.unknownProcessorRegister 10) := by decide

/-- V504 and V505, for every free value; V507. -/
theorem test_spr :
    (∀ free : Nibble, Psr.image free (Psr.ofWord 0x00C5#16) &&& 0x0FFF#16 = 0x00C5#16 ∧
      Psr.image free (Psr.ofWord 0x0EE7#16) &&& 0x0FFF#16 = 0x0EE7#16) ∧
    faultOf (stepOf 0x4A52#16 (machine [] 0x0000#16)) = some (.unknownProcessorRegister 10) := by decide

/-- V505: the PSR and another register are as before. -/
theorem test_spr_frame :
    seen 1 (stepOf 0x4952#16 (machine [(1, 0x1111#16)] 0x0EE7#16)) = some (0x1111#16, 0x0EE7#16, 0x0101#16) := by decide

/-- V544, V547, V549, V552. -/
theorem test_di_ei_retx_excp :
    refusalOf (stepOf 0x4030#16 (machine [] 0x0000#16)) = some (.unmodelled .di) ∧
    refusalOf (stepOf 0x4070#16 (machine [] 0x0000#16)) = some (.unmodelled .ei) ∧
    refusalOf (stepOf 0x4090#16 (machine [] 0x0000#16)) = some (.unmodelled .retx) ∧
    refusalOf (stepOf 0x40BF#16 (machine [] 0x0000#16)) = some (.unmodelled (.excp 15)) := by decide

/-- V541: the pc is kept. -/
theorem test_wait :
    seen 0 (stepOf 0x0000#16 (machine [] 0x0EE7#16)) = some (0xA5A5#16, 0x0EE7#16, 0x0100#16) := by decide

/-- The first instruction after reset runs at RESET_PC = 0x0000 (70_reset_and_hazards.md R230): ADDI 1 to register 2. -/
theorem test_first_step_after_reset :
    (seen 2 (step (State.reset.withFetchWord 16 0x5201))).map (fun x => x.2.2) = some 0x0001#16 ∧
    decodeTableWord 16 0x5201 = some (.addi 2 0x01#8) := by decide

/-! ## Witnesses: for every obligation with hypotheses, a state and operands that meet them together, one for each
clause, at the boundary values. Each name is `witness_` and the obligation's name. -/

/-- The machine of the witnesses: R1 = 0x0200 is a valid data address, R2 a value, R3 a target, R4 = -15, R5 = 16. -/
def ready : State :=
  machine [(1, 0x0200#16), (2, 0x8001#16), (3, 0x0ABC#16), (4, 0xFFF1#16), (5, 0x0010#16), (6, 0x000F#16),
    (7, 0xFFF0#16), (8, 0xFFFF#16), (9, 0x0000#16), (10, 0x4000#16), (11, 0x4FFF#16), (12, 0x3FFF#16)] 0x0EE7#16

/-- `ready` with every PSR field 0. -/
def cleared : State := ready.setPsr Psr.zero

/-- `ready` with the word placed at the pc. -/
def placed (w : Nat) : State := ready.withFetchWord 16 w

theorem witness_EncodeInvertsDecode : decode 0x0251#16 = .ok (.add 2 1) := by decide

/-- An unused word and a used one. -/
theorem witness_UnusedOpcodesAreThoseListed :
    decode 0x8080#16 = .error .unusedOpcode ∧ (0x8080#16).getLsbD 7 = true ∧ decode 0x8060#16 = .ok (.ashu 0 0) := by decide

theorem witness_ConstantNibblesAreRequired :
    decode 0x0001#16 = .error .constantNibble ∧ decode 0x0000#16 = .ok .wait ∧
    decode 0x41B0#16 = .error .constantNibble ∧ decode 0x40BF#16 = .ok (.excp 15) := by decide

/-- A baseline word and a word of another instruction of each group, whose op or ext is one bit away. -/
theorem witness_ProfileSelectsBaselineWords :
    decodeFor .baseline 0x0251#16 = .ok (.add 2 1) ∧ decodeFor .baseline 0x0271#16 = .error .notInProfile ∧
    decodeFor .baseline 0x52FF#16 = .ok (.addi 2 0xFF#8) ∧ decodeFor .baseline 0x72FF#16 = .error .notInProfile ∧
    decodeFor .baseline 0x4281#16 = .ok (.jal 2 1) ∧ decodeFor .baseline 0x42A1#16 = .error .notInProfile ∧
    decodeFor .baseline 0x821C#16 = .ok (.lshi 2 0b11100#5) ∧ decodeFor .baseline 0x823C#16 = .error .notInProfile := by
  decide

theorem witness_StepRunsDecodedInstruction :
    (placed 0x0251).waiting = false ∧ (placed 0x0251).codeWord (placed 0x0251).pc = some 0x0251#16 ∧
    decodeFor (placed 0x0251).params.profile 0x0251#16 = .ok (.add 2 1) := by decide

/-- The word of the image, and the words before and after it. -/
theorem witness_FetchOutsideImageFaults :
    (placed 0x0251).codeWord 0x0100#16 = some 0x0251#16 ∧ (placed 0x0251).codeWord 0x00FF#16 = none ∧
    (placed 0x0251).codeWord 0x0101#16 = none ∧ ready.waiting = false ∧ ready.codeWord ready.pc = none := by decide

/-- An unused opcode, a non-zero constant nibble, and a word that PROFILE = baseline alone rejects. -/
theorem witness_IllegalWordFaults :
    (placed 0x0040).waiting = false ∧ (placed 0x0040).codeWord (placed 0x0040).pc = some 0x0040#16 ∧
    decodeFor (placed 0x0040).params.profile 0x0040#16 = .error .unusedOpcode ∧
    decodeFor (placed 0x0001).params.profile 0x0001#16 = .error .constantNibble ∧
    decodeFor (baselineOnly (placed 0x0261)).params.profile 0x0261#16 = .error .notInProfile ∧
    (baselineOnly (placed 0x0261)).codeWord 0x0100#16 = some 0x0261#16 := by decide

theorem witness_WaitingMachineStays : ready.suspend.waiting = true := by decide

theorem witness_StepKeepsCanonicalMemory :
    (placed 0x4241).Inv ∧ (∃ t, step (placed 0x4241) = .next t) ∧ (placed 0x4241).dmem ≠ [] := by
  refine ⟨?_, ⟨_, rfl⟩, by decide⟩
  unfold State.Inv
  decide

theorem witness_RunKeepsProgramAndCanonicalMemory :
    (placed 0x4241).Inv ∧ ∃ t, runs 1 (placed 0x4241) t := ⟨witness_StepKeepsCanonicalMemory.1, _, rfl⟩

theorem witness_OnlyWaitSuspends :
    (∃ t, exec .wait ready = .next t) ∧ (∃ t, exec (.add 2 1) ready = .next t) := ⟨⟨_, rfl⟩, _, rfl⟩

theorem witness_PsrWritersAreThoseListed :
    (∃ t, exec (.lpr 2 9) ready = .next t) ∧ (∃ t, exec (.tbit 2 6) ready = .next t) := ⟨⟨_, rfl⟩, _, rfl⟩

theorem witness_RegistersWrittenAreThoseListed :
    (∃ t, exec (.add 2 1) ready = .next t) ∧ regWritten (.add 2 1) ≠ some 1 ∧
    (∃ t, exec (.stor 2 1) ready = .next t) ∧ regWritten (.stor 2 1) ≠ some 2 := ⟨⟨_, rfl⟩, by decide, ⟨_, rfl⟩, by decide⟩

theorem witness_OnlyStorChangesMemory :
    (∃ t, exec (.stor 2 1) ready = .next t) ∧ (∃ t, exec (.load 2 1) ready = .next t) ∧
    (∀ rsrc raddr : RegIx, Instr.load 2 1 ≠ .stor rsrc raddr) := ⟨⟨_, rfl⟩, ⟨_, rfl⟩, by simp⟩

theorem witness_OthersIgnoreDataMemory :
    accessesData (.jal 15 3) = false ∧ ∃ t, exec (.jal 15 3) ready = .next t := ⟨rfl, _, rfl⟩

theorem witness_SequentialPcAdvance :
    movesPc (.stor 2 1) = false ∧ (∃ t, exec (.stor 2 1) (atPc 0xFFFF#16 ready) = .next t) := ⟨rfl, _, rfl⟩

/-- Each stop at the first operand value that gives it, next to the last that does not. -/
theorem witness_StopCausesAreThoseListed :
    faultOf (exec (.lsh 2 5) ready) = some (.shiftAmountOutOfRange 16) ∧ faultOf (exec (.lsh 2 6) ready) = none ∧
    faultOf (exec (.ashu 2 7) ready) = some (.shiftAmountOutOfRange (-16)) ∧ faultOf (exec (.ashu 2 4) ready) = none ∧
    faultOf (exec (.ashui 2 0b10000#5) ready) = some (.shiftAmountOutOfRange (-16)) ∧
    faultOf (exec (.lshi 2 0b10000#5) ready) = some (.shiftAmountOutOfRange (-16)) ∧
    faultOf (exec (.tbit 2 5) ready) = some (.bitOffsetOutOfRange 16) ∧ faultOf (exec (.tbit 2 6) ready) = none ∧
    faultOf (exec (.lpr 2 8) ready) = some (.unknownProcessorRegister 8) ∧
    faultOf (exec (.spr 10 2) ready) = some (.unknownProcessorRegister 10) ∧
    faultOf (exec (.stor 2 10) ready) = some (.invalidDataAddress 0x4000#16) ∧
    faultOf (exec (.load 2 11) ready) = some (.invalidDataAddress 0x4FFF#16) ∧
    faultOf (exec (.stor 2 12) ready) = none ∧
    faultOf (exec (.load 2 12) ready) = some (.readOfUnwrittenState (.dmem 0x3FFF#16)) ∧
    faultOf (exec (.stor 2 1) (unified (ready.loadCode 0x0200#16 [0x0020#16]))) = some (.storeToCode 0x0200#16) ∧
    refusalOf (exec (.excp 7) ready) = some (.unmodelled (.excp 7)) := by decide

theorem witness_MuliResult : ∃ imm : BitVec 8, imm = 0xFF#8 := ⟨_, rfl⟩

theorem witness_NegativeIsLowXorSigns :
    (∃ t, exec (.cmp 2 1) ready = .next t) ∧ (∃ t, exec (.cmpi 2 0xFF#8) ready = .next t) := ⟨⟨_, rfl⟩, _, rfl⟩

theorem witness_CarryAndFlagReportInexactness :
    (∃ t, exec (.add 2 8) ready = .next t) ∧ (∃ t, exec (.sub 9 8) ready = .next t) := ⟨⟨_, rfl⟩, _, rfl⟩

/-- Low words R8 and R8, whose sum carries; high words R2 and R3. -/
theorem witness_CarryChainsDoubleWords :
    (8 : RegIx) ≠ 2 ∧ (8 : RegIx) ≠ 3 ∧
    (∃ t r, exec (.add 8 8) ready = .next t ∧ t.psr.c = true ∧ exec (.addc 2 3) t = .next r) ∧
    (∃ t r, exec (.sub 9 8) ready = .next t ∧ t.psr.c = true ∧ exec (.subc 2 3) t = .next r) :=
  ⟨by decide, by decide, ⟨_, _, rfl, rfl, rfl⟩, _, _, rfl, rfl, rfl⟩

theorem witness_AndXorResult :
    (∃ t, exec (.and 2 2) ready = .next t) ∧ (∃ t, exec (.xor 2 2) ready = .next t) := ⟨⟨_, rfl⟩, _, rfl⟩

/-- Amounts 0, 15; -1, -15; 16, -16: the first two clauses exclude the third, and each other by sign. -/
theorem witness_LshResult :
    (ready.readReg 9).toInt = 0 ∧ (ready.readReg 6).toInt = 15 ∧ (ready.readReg 8).toInt = -1 ∧
    (ready.readReg 4).toInt = -15 ∧ (ready.readReg 5).toInt = 16 ∧ (ready.readReg 7).toInt = -16 := by decide

/-- The patterns of 0, 15, -1, -15 and -16. -/
theorem witness_LshiResult :
    [0b00000#5, 0b01111#5, 0b11111#5, 0b10001#5, 0b10000#5].map (fun k : BitVec 5 =>
      if k.getLsbD 4 then ((k.extractLsb' 0 4).toNat : Int) - 16 else (k.extractLsb' 0 4).toNat) =
      [0, 15, -1, -15, -16] := by decide

/-- ASHU at 0, 15, -1, -15, 16 and -16, and ASHUI at the five boundary patterns. -/
theorem witness_AshuResult :
    ([9, 6, 8, 4, 5, 7].map fun r : RegIx => (ready.readReg r).toInt) = [0, 15, -1, -15, 16, -16] ∧
    ([0b00000#5, 0b01111#5, 0b11111#5, 0b10001#5, 0b10000#5].map fun k : BitVec 5 =>
      if k.getLsbD 4 then ((k.extractLsb' 0 4).toNat : Int) - 16 else (k.extractLsb' 0 4).toNat) =
      [0, 15, -1, -15, -16] := by decide

/-- A valid word that is listed; both ends of the hole; the valid, unlisted words next to it. -/
theorem witness_LoadResult :
    ready.dmemValid (ready.readReg 1) = true ∧ ready.dataWord (ready.readReg 1) = some 0xCAFE#16 ∧
    ready.dmemValid (ready.readReg 10) = false ∧ ready.dmemValid (ready.readReg 11) = false ∧
    ready.dmemValid (ready.readReg 12) = true ∧ ready.dataWord (ready.readReg 12) = none ∧
    (whole ready).params.dmemHoles = [] ∧ (whole ready).dataWord ((whole ready).readReg 1) = some 0xCAFE#16 ∧
    (0x4000, 0x4FFF) ∈ ready.params.dmemHoles := by decide

/-- Separate memories; one memory outside the image; a hole; one memory inside the image. -/
theorem witness_StorResult :
    ready.dmemValid (ready.readReg 1) = true ∧ ready.params.unifiedMemory = false ∧
    (unified (placed 0x4241)).params.unifiedMemory = true ∧ (unified (placed 0x4241)).inImage 0x0200#16 = false ∧
    ready.dmemValid (ready.readReg 10) = false ∧
    (unified (ready.loadCode 0x0200#16 [0x0020#16])).inImage (ready.readReg 1) = true ∧
    (whole ready).params.dmemHoles = [] ∧ (whole ready).params.unifiedMemory = false ∧
    (0x4000, 0x4FFF) ∈ ready.params.dmemHoles := by decide

/-- The same address; another one, which is listed. -/
theorem witness_LoadSeesLatestStor :
    (∃ t, exec (.stor 2 1) ready = .next t) ∧ (∃ t, exec (.stor 2 12) ready = .next t) ∧
    ready.readReg 1 ≠ ready.readReg 12 ∧ (∃ r, exec (.load 3 1) ready = .next r) :=
  ⟨⟨_, rfl⟩, ⟨_, rfl⟩, by decide, _, rfl⟩

theorem witness_ConditionsAfterCompare :
    (∃ t, exec (.cmp 2 1) ready = .next t) ∧ (∃ t, exec (.cmpi 2 0xFF#8) ready = .next t) := ⟨⟨_, rfl⟩, _, rfl⟩

theorem witness_ScondResult :
    condHolds ready.psr .eq = true ∧ condHolds ready.psr .nv = false ∧ condHolds ready.psr .ne = false := by decide

/-- Both values of BRANCH_BASE, each with a condition that holds and one that does not. -/
theorem witness_BcondResult :
    ready.params.branchBase = .thisInstruction ∧ (nextBase ready).params.branchBase = .nextInstruction ∧
    condHolds ready.psr .uc = true ∧ condHolds (nextBase ready).psr .eq = true ∧
    condHolds ready.psr .nv = false ∧ condHolds (nextBase ready).psr .ne = false := by decide

theorem witness_JcondResult :
    condHolds ready.psr .eq = true ∧ condHolds cleared.psr .eq = false := by decide

/-- A link register that is not the target register and one that is; the later state jumped elsewhere. -/
theorem witness_ReturnThroughLink :
    (∃ t, exec (.jal 15 3) ready = .next t ∧ (t.goto 0x0400#16).readReg 15 = t.readReg 15) ∧
    (∃ t, exec (.jal 3 3) (atPc 0xFFFF#16 ready) = .next t) := ⟨⟨_, rfl, rfl⟩, _, rfl⟩

/-- Offsets 15 and 16. -/
theorem witness_TbitResult : (ready.readReg 6).toNat = 15 ∧ (ready.readReg 5).toNat = 16 := by decide

theorem witness_TbitiResult : ∃ j k : Fin 16, j = 15 ∧ k = 0 := ⟨15, 0, rfl, rfl⟩

theorem witness_LprResult : (8 : Fin 16) ≠ ready.params.psrRproc ∧ (10 : Fin 16) ≠ ready.params.psrRproc := by decide

theorem witness_SprResult : (8 : Fin 16) ≠ ready.params.psrRproc ∧ (10 : Fin 16) ≠ ready.params.psrRproc := by decide

/-- The later state has another PSR. -/
theorem witness_SprThenLprRestoresPsr :
    ∃ t, exec (.spr ready.params.psrRproc 2) ready = .next t ∧ (t.setPsr Psr.zero).readReg 2 = t.readReg 2 ∧
      (t.setPsr Psr.zero).params = ready.params ∧ (t.setPsr Psr.zero).psr ≠ ready.psr :=
  ⟨_, rfl, rfl, rfl, by decide⟩

/-- Two words from 0xFFFF on, the second at 0x0000, an address that is neither's on each side, and a machine with
UNIFIED_MEMORY where the image does not hide the data and one where it does. -/
theorem witness_HostLoadingPlacesWords :
    [0x1111#16, 0x2222#16].length ≤ 65536 ∧
    (∀ k : Nat, k < [0x1111#16, 0x2222#16].length → 0xFFFE#16 ≠ 0xFFFF#16 + BitVec.ofNat 16 k) ∧
    (∀ k : Nat, k < [0x1111#16, 0x2222#16].length → 0x0001#16 ≠ 0xFFFF#16 + BitVec.ofNat 16 k) ∧
    ready.params.unifiedMemory = false ∧ (unified ready).params.unifiedMemory = true ∧
    (unified ready).codeWord (0xFFFF#16 + BitVec.ofNat 16 1) = none := by decide

/-- Loading over the end of the address space (log entry 10). -/
theorem test_loading_wraps :
    (ready.loadCode 0xFFFF#16 [0x1111#16, 0x2222#16]).imem = [(0x0000, 0x2222#16), (0xFFFF, 0x1111#16)] ∧
    (ready.loadData 0xFFFF#16 [0x1111#16, 0x2222#16]).dataWord 0x0000#16 = some 0x2222#16 := by decide

end Sys2Proof.Tests
end

