-- ==== Sys2Proof/Proofs/Scope.lean ====
section
/-!
PROOFS. 00_scope.md: what PROFILE keeps of the decoded words (R2, R7; decision D2), and the step as the execution of the
instruction at the pc (R12).
-/

namespace Sys2Proof

/-! ## The decoder of a profile -/

/-- A profile's decoder reads exactly the decoded instructions that the profile has. -/
theorem decodeFor_ok_iff (p : Profile) (w : Word) (i : Instr) :
    decodeFor p w = .ok i ↔ decode w = .ok i ∧ i.inProfile p = true := by
  unfold decodeFor
  cases decode w with
  | error r => simp [Except.bind]
  | ok j =>
    by_cases hj : j.inProfile p = true
    · simp only [Except.bind, restrictTo, if_pos hj, Except.ok.injEq, iff_self_and]
      rintro rfl
      exact hj
    · simp only [Except.bind, restrictTo, if_neg hj, reduceCtorEq, Except.ok.injEq, false_iff, not_and]
      rintro rfl
      exact hj

/-- PROFILE = full rejects no instruction (00_scope.md R2). -/
theorem decodeFor_full (w : Word) : decodeFor .full w = decode w := by
  unfold decodeFor
  cases decode w <;> rfl

/-! ## The baseline rows by op and ext -/

/-- Are `op` and `ext` those of a row marked `*` in 30_encoding.md R73? -/
def BaselineRow (op ext : Nibble) : Prop :=
  (op = 0b0000#4 ∧ ext ∈ [0b0001#4, 0b0010#4, 0b0011#4, 0b0101#4, 0b1001#4, 0b1011#4, 0b1101#4]) ∨
    op ∈ [0b0001#4, 0b0010#4, 0b0011#4, 0b0101#4, 0b1001#4, 0b1011#4, 0b1100#4, 0b1101#4, 0b1111#4] ∨
    (op = 0b0100#4 ∧ ext ∈ [0b0000#4, 0b0100#4, 0b1000#4, 0b1100#4]) ∨
    (op = 0b1000#4 ∧ ext ∈ [0b0000#4, 0b0001#4, 0b0100#4])

/-- A row of constants can only be its own instruction (30_encoding.md R87). -/
theorem fixedWord_ok (a b : Nibble) (i j : Instr) (h : fixedWord a b i = .ok j) : j = i := by
  unfold fixedWord at h
  split at h
  · cases h; rfl
  · cases h

/-- The row of EXCP can only be EXCP (30_encoding.md R87). -/
theorem exceptionWord_ok (a b : Nibble) (j : Instr) (h : exceptionWord a b = .ok j) : j = .excp (regOf b) := by
  unfold exceptionWord at h
  split at h
  · cases h; rfl
  · cases h

theorem decodeRegister_isBaseline_iff (a ext b : Nibble) (i : Instr) (h : decodeRegister a ext b = .ok i) :
    i.isBaseline = true ↔ BaselineRow 0b0000#4 ext := by
  unfold decodeRegister at h
  split at h
  case h_1 =>
    obtain rfl := fixedWord_ok _ _ _ _ h
    simp [Instr.isBaseline, BaselineRow]
  case h_13 => cases h
  all_goals
    cases h
    simp [Instr.isBaseline, BaselineRow]

theorem decodeSpecial_isBaseline_iff (a ext b : Nibble) (i : Instr) (h : decodeSpecial a ext b = .ok i) :
    i.isBaseline = true ↔ BaselineRow 0b0100#4 ext := by
  unfold decodeSpecial at h
  split at h
  case h_4 | h_8 | h_10 =>
    obtain rfl := fixedWord_ok _ _ _ _ h
    simp [Instr.isBaseline, BaselineRow]
  case h_12 =>
    obtain rfl := exceptionWord_ok _ _ _ h
    simp [Instr.isBaseline, BaselineRow]
  case h_16 => cases h
  all_goals
    cases h
    simp [Instr.isBaseline, BaselineRow]

theorem decodeShift_isBaseline_iff (a ext b : Nibble) (amount : BitVec 5) (i : Instr)
    (h : decodeShift a ext b amount = .ok i) : i.isBaseline = true ↔ BaselineRow 0b1000#4 ext := by
  unfold decodeShift at h
  split at h
  case h_7 => cases h
  all_goals
    cases h
    simp [Instr.isBaseline, BaselineRow]

/-- Whether a decoded instruction is a baseline one is read off its op and ext fields: each of the three groups by its
extension, every other opcode by itself. -/
theorem decode_isBaseline_iff (w : Word) (i : Instr) (h : decode w = .ok i) :
    i.isBaseline = true ↔ BaselineRow (opField w) (extField w) := by
  unfold decode at h
  split at h
  case h_1 hop => rw [hop]; exact decodeRegister_isBaseline_iff _ _ _ _ h
  case h_5 hop => rw [hop]; exact decodeSpecial_isBaseline_iff _ _ _ _ h
  case h_9 hop => rw [hop]; exact decodeShift_isBaseline_iff _ _ _ _ _ h
  case h_17 => cases h
  all_goals
    next hop =>
      cases h
      simp [Instr.isBaseline, BaselineRow, hop]

/-- Settles O5: `decodeFor_ok_iff` leaves the profile's own test, which `decode_isBaseline_iff` reads off the fields. -/
theorem profileSelectsBaselineWords : Obligations.ProfileSelectsBaselineWords := by
  unfold Obligations.ProfileSelectsBaselineWords
  refine fun w => ⟨decodeFor_full w, fun i => ?_⟩
  calc decodeFor .baseline w = .ok i
    _ ↔ decode w = .ok i ∧ i.isBaseline = true := decodeFor_ok_iff .baseline w i
    _ ↔ decode w = .ok i ∧ BaselineRow (opField w) (extField w) :=
      and_congr_right (decode_isBaseline_iff w i)

end Sys2Proof

namespace Sys2Proof.Machine

/-! ## The step at a word of the image -/

/-- A fetch inside the image gives its word (20_memory.md R58). -/
theorem State.iFetch_of_codeWord (s : State) (a w : Word) (h : s.codeWord a = some w) : s.iFetch a = .ok w := by
  simp [State.iFetch, h]

/-- The converse of `State.fetchInstr_ok`. -/
theorem State.fetchInstr_of_decodeFor (s : State) (w : Word) (i : Instr) (hw : s.codeWord s.pc = some w)
    (hi : decodeFor s.params.profile w = .ok i) : s.fetchInstr = .ok i := by
  simp [State.fetchInstr, s.iFetch_of_codeWord s.pc w hw, hi]

/-- A machine that is not waiting runs what it fetches (00_scope.md R12). -/
theorem step_of_fetchInstr (s : State) (i : Instr) (hs : s.waiting = false) (hi : s.fetchInstr = .ok i) :
    step s = exec i s := by
  simp [step, hs, hi]

/-- Settles O7: the fetch gives the word's instruction, and the step runs what is fetched. -/
theorem stepRunsDecodedInstruction : Obligations.StepRunsDecodedInstruction := by
  unfold Obligations.StepRunsDecodedInstruction
  intro s w i hs hw hi
  exact step_of_fetchInstr s i hs (s.fetchInstr_of_decodeFor w i hw hi)

end Sys2Proof.Machine
end

/-!
PROOFS. 10_state.md: what an instruction that completes does to the state, and from it the rules of the pc (R24, R25),
the PSR (R31, R35), the program text along a run (R37), `waiting` (R39) and the state after reset (R41).
-/

namespace Sys2Proof.Machine

/-! ## The PSR field by field (10_state.md R26, R35) -/

/-- From PSR `old` to PSR `new` no field changes but those whose bit of the 16 bit image is set in `mask`. -/
structure PsrChangesWithin (mask : Word) (old new : Psr) : Prop where
  i : mask.getLsbD 11 = true ∨ new.i = old.i
  p : mask.getLsbD 10 = true ∨ new.p = old.p
  e : mask.getLsbD 9 = true ∨ new.e = old.e
  n : mask.getLsbD 7 = true ∨ new.n = old.n
  z : mask.getLsbD 6 = true ∨ new.z = old.z
  f : mask.getLsbD 5 = true ∨ new.f = old.f
  l : mask.getLsbD 2 = true ∨ new.l = old.l
  t : mask.getLsbD 1 = true ∨ new.t = old.t
  c : mask.getLsbD 0 = true ∨ new.c = old.c

theorem PsrChangesWithin.refl (mask : Word) (p : Psr) : PsrChangesWithin mask p p :=
  ⟨.inr rfl, .inr rfl, .inr rfl, .inr rfl, .inr rfl, .inr rfl, .inr rfl, .inr rfl, .inr rfl⟩

/-- The image built up one bit at a time, so that the library's rules for `BitVec.concat` read its bits. -/
theorem Psr.image_eq_concat (r : Nibble) (p : Psr) :
    Psr.image r p =
      (((((((((((r.concat p.i).concat p.p).concat p.e).concat false).concat p.n).concat p.z).concat p.f).concat
        false).concat false).concat p.l).concat p.t).concat p.c :=
  rfl

/-- Fields that keep their value keep their bit of the image. -/
theorem PsrChangesWithin.image {mask : Word} {p q : Psr} (h : PsrChangesWithin mask p q) :
    (Psr.image 0#4 q ^^^ Psr.image 0#4 p) &&& ~~~mask = 0#16 := by
  obtain ⟨hi, hp, he, hn, hz, hf, hl, ht, hc⟩ := h
  refine BitVec.eq_of_getLsbD_eq fun k hk => ?_
  rw [Psr.image_eq_concat, Psr.image_eq_concat]
  interval_cases k <;> simp [BitVec.getElem_concat] <;> grind

theorem addFlags_changesWithin (a b : Word) (c : Bool) (p : Psr) :
    PsrChangesWithin 0x0021#16 p (addFlags a b c p) :=
  { PsrChangesWithin.refl _ p with c := .inl rfl, f := .inl rfl }

theorem subFlags_changesWithin (a b : Word) (c : Bool) (p : Psr) :
    PsrChangesWithin 0x0021#16 p (subFlags a b c p) :=
  { PsrChangesWithin.refl _ p with c := .inl rfl, f := .inl rfl }

theorem cmpFlags_changesWithin (a b : Word) (p : Psr) : PsrChangesWithin 0x00C4#16 p (cmpFlags a b p) :=
  { PsrChangesWithin.refl _ p with z := .inl rfl, l := .inl rfl, n := .inl rfl }

theorem testBitFlags_changesWithin (v : Word) (k : Nat) (p : Psr) :
    PsrChangesWithin 0x0020#16 p (testBitFlags v k p) :=
  { PsrChangesWithin.refl _ p with f := .inl rfl }

/-- The mask of LPR holds all nine fields. -/
theorem psrChangesWithin_allFields (p q : Psr) : PsrChangesWithin 0x0EE7#16 p q :=
  ⟨.inl rfl, .inl rfl, .inl rfl, .inl rfl, .inl rfl, .inl rfl, .inl rfl, .inl rfl, .inl rfl⟩

/-! ## What an instruction that completes can do -/

/-- `Completes s i t`: the ways in which `i` can take the state `s` to the state `t`. Most instructions write a register
or the PSR, within the spec's tables of effects, and go on to the next word; SPR, STOR, Bcond, Jcond, JAL and WAIT have
a way of their own. `exec_completes` ties it to `exec`. -/
inductive Completes (s : State) : Instr → State → Prop where
  | register (i : Instr) (r : RegIx) (v : Word) (p : Psr) (advances : movesPc i = false) (named : regWritten i = some r)
      (within : PsrChangesWithin (psrWritten i) s.psr p) : Completes s i ((s.writeReg r v).setPsr p).advance
  | flags (i : Instr) (p : Psr) (advances : movesPc i = false) (within : PsrChangesWithin (psrWritten i) s.psr p) :
      Completes s i (s.setPsr p).advance
  | spr (rproc : Fin 16) (rdest : RegIx) :
      Completes s (.spr rproc rdest) (s.countDraw.writeReg rdest (Psr.image s.nextDraw s.psr)).advance
  | stor (rsrc raddr : RegIx) (m : Memory)
      (stored : s.memWrite (s.readReg raddr) (s.readReg rsrc) = .ok { s with dmem := m }) :
      Completes s (.stor rsrc raddr) ({ s with dmem := m } : State).advance
  | bcond (cond : Cond) (disp : BitVec 8) :
      Completes s (.bcond cond disp) (s.goto (if condHolds s.psr cond then s.branchTarget disp else s.nextPc))
  | jcond (cond : Cond) (rtarget : RegIx) :
      Completes s (.jcond cond rtarget) (s.goto (if condHolds s.psr cond then s.readReg rtarget else s.nextPc))
  | jal (rlink rtarget : RegIx) :
      Completes s (.jal rlink rtarget) ((s.writeReg rlink s.nextPc).goto (s.readReg rtarget))
  | wait : Completes s .wait s.suspend

section Shapes

variable {i : Instr} {s t : State} {r : RegIx} {b : Word} {c : Bool}

theorem Completes.of_writeBack (hpc : movesPc i = false) (hr : regWritten i = some r) (h : writeBack r b s = .next t) :
    Completes s i t := by
  cases h
  exact .register i r b s.psr hpc hr (.refl _ _)

theorem Completes.of_addWithFlags (hpc : movesPc i = false) (hr : regWritten i = some r)
    (hm : psrWritten i = 0x0021#16) (h : addWithFlags r b c s = .next t) : Completes s i t := by
  cases h
  exact .register i r _ _ hpc hr (hm ▸ addFlags_changesWithin _ _ _ _)

theorem Completes.of_subWithFlags (hpc : movesPc i = false) (hr : regWritten i = some r)
    (hm : psrWritten i = 0x0021#16) (h : subWithFlags r b c s = .next t) : Completes s i t := by
  cases h
  exact .register i r _ _ hpc hr (hm ▸ subFlags_changesWithin _ _ _ _)

theorem Completes.of_compareWith (hpc : movesPc i = false) (hm : psrWritten i = 0x00C4#16)
    (h : compareWith r b s = .next t) : Completes s i t := by
  cases h
  exact .flags i _ hpc (hm ▸ cmpFlags_changesWithin _ _ _)

theorem Completes.of_shiftBy {shift : Word → Int → Word} {n : Int} (hpc : movesPc i = false)
    (hr : regWritten i = some r) (h : shiftBy shift r n s = .next t) : Completes s i t := by
  unfold shiftBy at h
  split at h
  · exact .of_writeBack hpc hr h
  · cases h

theorem Completes.of_testBit {k : Nat} (hpc : movesPc i = false) (hm : psrWritten i = 0x0020#16)
    (h : testBit r k s = .next t) : Completes s i t := by
  unfold testBit at h
  split at h
  · cases h
    exact .flags i _ hpc (hm ▸ testBitFlags_changesWithin _ _ _)
  · cases h

/-- Both ends of a conditional transfer set the pc and nothing else. -/
theorem jumpIf_next {cond : Cond} {target : Word} (h : jumpIf cond target s = .next t) :
    t = s.goto (if condHolds s.psr cond then target else s.nextPc) := by
  cases h
  split <;> rfl

/-- An access to the PSR by number completes only by running its action. -/
theorem withPsrNumber_next {rproc : Fin 16} {act : State → Result} (h : withPsrNumber rproc s act = .next t) :
    act s = .next t := by
  unfold withPsrNumber at h
  split at h
  · exact h
  · cases h

theorem execLpr_next {rsrc : RegIx} {rproc : Fin 16} (h : execLpr rsrc rproc s = .next t) :
    t = (s.setPsr (Psr.ofWord (s.readReg rsrc))).advance := by
  cases withPsrNumber_next h
  rfl

theorem execSpr_next {rproc : Fin 16} {rdest : RegIx} (h : execSpr rproc rdest s = .next t) :
    t = (s.countDraw.writeReg rdest (Psr.image s.nextDraw s.psr)).advance := by
  cases withPsrNumber_next h
  rfl

theorem execLoad_next {rdest raddr : RegIx} (h : execLoad rdest raddr s = .next t) :
    ∃ v, writeBack rdest v s = .next t := by
  unfold execLoad at h
  split at h
  · next v _ => exact ⟨v, h⟩
  · cases h

theorem execStor_next {rsrc raddr : RegIx} (h : execStor rsrc raddr s = .next t) :
    ∃ u, s.memWrite (s.readReg raddr) (s.readReg rsrc) = .ok u ∧ t = u.advance := by
  unfold execStor at h
  split at h
  · next u hu => cases h; exact ⟨u, hu, rfl⟩
  · cases h

end Shapes

/-- Every instruction that answers a next state completes in one of the ways of `Completes`. -/
theorem exec_completes {i : Instr} {s t : State} (h : exec i s = .next t) : Completes s i t := by
  cases i
  case add | addi | addc | addci => exact .of_addWithFlags rfl rfl rfl h
  case sub | subi | subc | subci => exact .of_subWithFlags rfl rfl rfl h
  case cmp | cmpi => exact .of_compareWith rfl rfl h
  case addu | addui | mul | muli | and | andi | or | ori | xor | xori | mov | movi | lui | snxb | zrxb | scond =>
    exact .of_writeBack rfl rfl h
  case lsh | lshi | ashu | ashui => exact .of_shiftBy rfl rfl h
  case tbit | tbiti => exact .of_testBit rfl rfl h
  case load =>
    obtain ⟨v, hv⟩ := execLoad_next h
    exact .of_writeBack rfl rfl hv
  case stor =>
    obtain ⟨u, hu, rfl⟩ := execStor_next h
    obtain ⟨-, -, rfl⟩ := State.memWrite_ok _ _ _ _ hu
    exact .stor _ _ _ hu
  case bcond =>
    obtain rfl := jumpIf_next h
    exact .bcond _ _
  case jcond =>
    obtain rfl := jumpIf_next h
    exact .jcond _ _
  case jal => cases h; exact .jal _ _
  case lpr =>
    obtain rfl := execLpr_next h
    exact .flags _ _ rfl (psrChangesWithin_allFields _ _)
  case spr =>
    obtain rfl := execSpr_next h
    exact .spr _ _
  case wait => cases h; exact .wait
  case di | ei | excp | retx => cases h

/-! ## The program text, the parameters and the canonical form along a run (10_state.md R37; 20_memory.md R64) -/

/-- No instruction changes the program text or the parameters, and each keeps the canonical form: only STOR writes a
memory, the data memory, through `State.memWrite`. -/
theorem exec_keeps {i : Instr} {s t : State} (h : exec i s = .next t) :
    t.imem = s.imem ∧ t.params = s.params ∧ (s.Inv → t.Inv) := by
  cases exec_completes h with
  | stor _ _ m stored =>
    have hinv : s.Inv → ({ s with dmem := m } : State).Inv := State.memWrite_inv s _ _ _ stored
    exact ⟨rfl, rfl, hinv⟩
  | register | flags | spr | bcond | jcond | jal | wait => exact ⟨rfl, rfl, id⟩

theorem step_keeps {s t : State} (h : step s = .next t) :
    t.imem = s.imem ∧ t.params = s.params ∧ (s.Inv → t.Inv) := by
  obtain ⟨-, rfl⟩ | ⟨-, i, -, hi⟩ := step_next_cases s t h
  · exact ⟨rfl, rfl, id⟩
  · exact exec_keeps hi

/-- A run of one step more is a step that answers a next state, and the run from there. -/
theorem core_run_succ_iff (M : Host.Core) (n : Nat) (s t : M.State) :
    M.run (n + 1) s = .next t ↔ ∃ u, M.step s = .next u ∧ M.run n u = .next t := by
  rw [Host.Core.run]
  cases M.step s <;> simp

theorem runs_zero_iff (s t : State) : runs 0 s t ↔ t = s :=
  ⟨fun h => by cases h; rfl, fun h => h ▸ rfl⟩

theorem runs_succ_iff (n : Nat) (s t : State) : runs (n + 1) s t ↔ ∃ u, step s = .next u ∧ runs n u t :=
  core_run_succ_iff Sys2Proof.core n s t

/-- Settles O13: by induction on the number of steps, from `step_keeps`. -/
theorem runKeepsProgramAndCanonicalMemory : Obligations.RunKeepsProgramAndCanonicalMemory := by
  unfold Obligations.RunKeepsProgramAndCanonicalMemory
  intro n
  induction n with
  | zero =>
    intro s t h
    obtain rfl := (runs_zero_iff s t).mp h
    exact ⟨rfl, rfl, id⟩
  | succ n ih =>
    intro s t h
    obtain ⟨u, hstep, hrun⟩ := (runs_succ_iff n s t).mp h
    obtain ⟨himem, hparams, hinv⟩ := step_keeps hstep
    obtain ⟨himem', hparams', hinv'⟩ := ih u t hrun
    exact ⟨himem'.trans himem, hparams'.trans hparams, hinv' ∘ hinv⟩

/-! ## `waiting`, the PSR and the pc after one instruction (10_state.md R24, R25, R35, R39) -/

/-- Settles O15: WAIT is the one way of `Completes` that touches `waiting`. -/
theorem onlyWaitSuspends : Obligations.OnlyWaitSuspends := by
  unfold Obligations.OnlyWaitSuspends
  intro i s t h
  cases exec_completes h with
  | wait => simp
  | register _ _ _ _ hpc | flags _ _ hpc =>
    have hi : i ≠ .wait := by rintro rfl; cases hpc
    simp [hi]
  | spr | stor | bcond | jcond | jal => simp

/-- Only the register and the flag forms replace the PSR, within their row of the table. -/
theorem exec_psrChangesWithin {i : Instr} {s t : State} (h : exec i s = .next t) :
    PsrChangesWithin (psrWritten i) s.psr t.psr := by
  cases exec_completes h with
  | register _ _ _ _ _ _ hp => exact hp
  | flags _ _ _ hp => exact hp
  | spr | stor | bcond | jcond | jal | wait => exact .refl _ _

/-- Settles O16: the table holds field by field, so it holds of the images. -/
theorem psrWritersAreThoseListed : Obligations.PsrWritersAreThoseListed := by
  unfold Obligations.PsrWritersAreThoseListed
  exact fun i s t h => (exec_psrChangesWithin h).image

theorem exec_pc_of_movesPc_eq_false {i : Instr} {s t : State} (hi : movesPc i = false) (h : exec i s = .next t) :
    t.pc = s.pc + 1#16 := by
  cases exec_completes h with
  | register | flags | spr | stor => rfl
  | bcond | jcond | jal | wait => cases hi

/-- Settles O20: the next word's address, read as a number. -/
theorem sequentialPcAdvance : Obligations.SequentialPcAdvance := by
  unfold Obligations.SequentialPcAdvance
  intro i s t hi h
  rw [exec_pc_of_movesPc_eq_false hi h, BitVec.toNat_add]
  rfl

/-! ## N after a compare (10_state.md R31) -/

/-- The signed order is the unsigned one, turned over where the two sign bits differ. -/
theorem cmpFlags_n_eq_xor (a b : Word) (p : Psr) :
    (cmpFlags a b p).n = ((cmpFlags a b p).l ^^ (b.getLsbD 15 ^^ a.getLsbD 15)) := by
  have h : a.slt b = (a.ult b ^^ (b.msb ^^ a.msb)) := by
    rw [BitVec.slt_eq_ult, Bool.xor_comm, Bool.xor_comm b.msb]
  rwa [BitVec.msb_eq_getLsbD_last, BitVec.msb_eq_getLsbD_last] at h

/-- The sign bit of a sign-extended immediate is the immediate's own (30_encoding.md R79). -/
theorem sext8_getLsbD_fifteen (imm : BitVec 8) : (sext8 imm).getLsbD 15 = imm.getLsbD 7 := by
  simp [sext8, BitVec.getElem_signExtend, BitVec.msb_eq_getLsbD_last]

/-- Settles O31: both forms compare with `cmpFlags`. -/
theorem negativeIsLowXorSigns : Obligations.NegativeIsLowXorSigns := by
  unfold Obligations.NegativeIsLowXorSigns
  intro s t rd rs imm
  refine ⟨fun h => ?_, fun h => ?_⟩
  · cases h
    exact cmpFlags_n_eq_xor _ _ _
  · cases h
    rw [← sext8_getLsbD_fifteen]
    exact cmpFlags_n_eq_xor _ _ _

/-! ## The state after reset (10_state.md R41; 70_reset_and_hazards.md R230, R235) -/

theorem resetFrom_inv (d : ResetDraw) : (State.resetFrom d).Inv := ⟨Memory.wf_nil, Memory.wf_nil⟩

/-- Settles O12: the empty memories are canonical and the host's loading keeps them so. -/
theorem resetAndLoadingAreCanonical : Obligations.ResetAndLoadingAreCanonical := by
  unfold Obligations.ResetAndLoadingAreCanonical
  exact ⟨resetFrom_inv _, fun d codeAt dataAt program data =>
    State.loadData_inv _ dataAt data (State.loadCode_inv _ codeAt program (resetFrom_inv d))⟩

/-- Nothing is loaded after reset, so no address of either memory holds a word. -/
theorem resetFrom_codeWord (d : ResetDraw) (a : Word) : (State.resetFrom d).codeWord a = none := rfl

theorem resetFrom_dataWord (d : ResetDraw) (a : Word) : (State.resetFrom d).dataWord a = none := by
  unfold State.dataWord
  split
  · exact resetFrom_codeWord d a
  · rfl

/-- Settles O14: the values that `State.resetFrom` and the parameters of 00_scope.md R7 name. -/
theorem resetStartsAtResetPc : Obligations.ResetStartsAtResetPc := by
  unfold Obligations.ResetStartsAtResetPc
  refine ⟨rfl, rfl, fun a => ⟨resetFrom_codeWord _ a, resetFrom_dataWord _ a⟩, fun d => ⟨rfl, rfl, rfl, rfl⟩,
    rfl, rfl, fun a => ?_⟩
  rw [State.dmemValid_iff]
  exact fun hole h => absurd h List.not_mem_nil

end Sys2Proof.Machine

/-!
PROOFS. 20_memory.md: which instructions touch the memories (R53, R61), their canonical form along a step (R50, R57), the
fetch outside the image (R58), and a load after a store (R61; decision D23).
-/

namespace Sys2Proof.Machine

/-! ## The fetch outside the image (20_memory.md R58) -/

/-- The other half of `State.iFetch_of_codeWord`. -/
theorem State.iFetch_of_codeWord_eq_none (s : State) (a : Word) (h : s.codeWord a = none) :
    s.iFetch a = .error (.readOfUnwrittenState (.imem a)) := by
  simp [State.iFetch, h]

/-- The decoder is not reached when the fetch faults (00_scope.md R12). -/
theorem State.fetchInstr_of_iFetch_error (s : State) (f : Fault) (h : s.iFetch s.pc = .error f) :
    s.fetchInstr = .error f := by
  simp [State.fetchInstr, h]

/-- A fault of the fetch or of the decoding is the step's. -/
theorem step_of_fetchInstr_error (s : State) (f : Fault) (hs : s.waiting = false) (hf : s.fetchInstr = .error f) :
    step s = .fault f := by
  simp [step, hs, hf]

/-- Settles O8: the fault of the fetch goes through the decoding and the step unchanged. -/
theorem fetchOutsideImageFaults : Obligations.FetchOutsideImageFaults := by
  unfold Obligations.FetchOutsideImageFaults
  intro s a w
  refine ⟨s.iFetch_of_codeWord a w, s.iFetch_of_codeWord_eq_none a, fun hs hpc => ?_⟩
  have hfetch := s.iFetch_of_codeWord_eq_none s.pc hpc
  exact step_of_fetchInstr_error s _ hs (s.fetchInstr_of_iFetch_error _ hfetch)

/-! ## What an instruction and a step do to the memories (20_memory.md R50, R53, R61) -/

/-- Settles O11: a step keeps the instruction memory and replaces the data memory by a canonical one at most
(`step_keeps`, which rests on `Memory.write_wf`). -/
theorem stepKeepsCanonicalMemory : Obligations.StepKeepsCanonicalMemory := by
  unfold Obligations.StepKeepsCanonicalMemory
  intro s t hs h
  obtain ⟨-, -, hinv⟩ := step_keeps h
  exact hinv hs

/-- STOR is the one way of `Completes` that replaces the data memory. -/
theorem exec_dmem_of_ne_stor {i : Instr} {s t : State} (hi : ∀ rsrc raddr : RegIx, i ≠ .stor rsrc raddr)
    (h : exec i s = .next t) : t.dmem = s.dmem := by
  cases exec_completes h with
  | stor rsrc raddr => exact absurd rfl (hi rsrc raddr)
  | register | flags | spr | bcond | jcond | jal | wait => rfl

/-- Settles O18: the program text by `exec_keeps`, the data by `exec_dmem_of_ne_stor`. -/
theorem onlyStorChangesMemory : Obligations.OnlyStorChangesMemory := by
  unfold Obligations.OnlyStorChangesMemory
  intro i s t h
  obtain ⟨himem, -, -⟩ := exec_keeps h
  exact ⟨himem, fun hi => exec_dmem_of_ne_stor hi h⟩

/-! ## The other instructions do not look at the data memory (20_memory.md R53)

Each shape that tests something before it completes gets its lemma: the test reads no data word, so with another data
memory it comes out the same. The other shapes complete from every state, and compute. -/

section OtherData

variable {s t : State} (m : Memory)

theorem shiftBy_withData {shift : Word → Int → Word} {r : RegIx} {n : Int} (h : shiftBy shift r n s = .next t) :
    shiftBy shift r n { s with dmem := m } = .next { t with dmem := m } := by
  unfold shiftBy at h ⊢
  split at h
  · next hn => cases h; rw [if_pos hn]; rfl
  · cases h

theorem testBit_withData {r : RegIx} {k : Nat} (h : testBit r k s = .next t) :
    testBit r k { s with dmem := m } = .next { t with dmem := m } := by
  unfold testBit at h ⊢
  split at h
  · next hk => cases h; rw [if_pos hk]; rfl
  · cases h

theorem jumpIf_withData {cond : Cond} {target : Word} (h : jumpIf cond target s = .next t) :
    jumpIf cond target { s with dmem := m } = .next { t with dmem := m } := by
  cases h
  unfold jumpIf
  split <;> rfl

theorem withPsrNumber_withData {rproc : Fin 16} {act : State → Result}
    (hact : act s = .next t → act { s with dmem := m } = .next { t with dmem := m })
    (h : withPsrNumber rproc s act = .next t) :
    withPsrNumber rproc { s with dmem := m } act = .next { t with dmem := m } := by
  unfold withPsrNumber at h ⊢
  split at h
  · next hr => rw [if_pos hr]; exact hact h
  · cases h

theorem execLpr_withData {rsrc : RegIx} {rproc : Fin 16} (h : execLpr rsrc rproc s = .next t) :
    execLpr rsrc rproc { s with dmem := m } = .next { t with dmem := m } := by
  unfold execLpr at h ⊢
  exact withPsrNumber_withData m (fun ht => by cases ht; rfl) h

theorem execSpr_withData {rproc : Fin 16} {rdest : RegIx} (h : execSpr rproc rdest s = .next t) :
    execSpr rproc rdest { s with dmem := m } = .next { t with dmem := m } := by
  unfold execSpr at h ⊢
  exact withPsrNumber_withData m (fun ht => by cases ht; rfl) h

end OtherData

/-- Settles O19: by the shape of each instruction's meaning. -/
theorem othersIgnoreDataMemory : Obligations.OthersIgnoreDataMemory := by
  unfold Obligations.OthersIgnoreDataMemory
  intro i s t m hi h
  cases i
  case load | stor => cases hi
  case add | addi | addu | addui | addc | addci | mul | muli | sub | subi | subc | subci | cmp | cmpi => cases h; rfl
  case and | andi | or | ori | xor | xori | mov | movi | lui | snxb | zrxb | scond | jal | wait => cases h; rfl
  case lsh | lshi | ashu | ashui => exact shiftBy_withData m h
  case tbit | tbiti => exact testBit_withData m h
  case bcond | jcond => exact jumpIf_withData m h
  case lpr => exact execLpr_withData m h
  case spr => exact execSpr_withData m h
  case di | ei | excp | retx => cases h

/-! ## A load after a store (20_memory.md R56, R57, R61) -/

/-- The converse of `State.memRead_ok`: MemRead answers exactly the words of the valid addresses. -/
theorem State.memRead_eq_ok_iff (s : State) (a v : Word) :
    s.memRead a = .ok v ↔ s.dmemValid a = true ∧ s.dataWord a = some v :=
  ⟨s.memRead_ok a v, fun ⟨hvalid, hword⟩ => by simp [State.memRead, hvalid, hword]⟩

@[simp] theorem State.advance_memRead (s : State) (a : Word) : s.advance.memRead a = s.memRead a := rfl

/-- A store into the image faults, so the address stored to is one of DMEM, also where the memories are one. -/
theorem State.dataWord_of_memWrite_self {s t : State} {a v : Word} (h : s.memWrite a v = .ok t) :
    t.dataWord a = some v := by
  obtain ⟨-, hcode, rfl⟩ := s.memWrite_ok t a v h
  have hdata : ¬(s.params.unifiedMemory && s.inImage a) = true := by simp [hcode]
  exact (if_neg hdata).trans (Memory.read_write_self _ _ _)

theorem State.dataWord_of_memWrite_of_ne {s t : State} {a b v : Word} (hb : b ≠ a) (h : s.memWrite a v = .ok t) :
    t.dataWord b = s.dataWord b := by
  obtain ⟨-, -, rfl⟩ := s.memWrite_ok t a v h
  have hread : (s.dmem.write a.toNat v).read b.toNat = s.dmem.read b.toNat :=
    Memory.read_write_of_ne _ _ _ _ fun heq => hb (BitVec.eq_of_toNat_eq heq)
  unfold State.dataWord
  rw [hread]
  rfl

/-- A store changes no parameter, so it changes no address's validity. -/
theorem State.dmemValid_of_memWrite {s t : State} {a v : Word} (h : s.memWrite a v = .ok t) (b : Word) :
    t.dmemValid b = s.dmemValid b := by
  obtain ⟨-, -, rfl⟩ := s.memWrite_ok t a v h
  rfl

theorem State.memRead_of_memWrite_self {s t : State} {a v : Word} (h : s.memWrite a v = .ok t) :
    t.memRead a = .ok v := by
  obtain ⟨hvalid, -, -⟩ := s.memWrite_ok t a v h
  rw [State.memRead_eq_ok_iff, State.dmemValid_of_memWrite h]
  exact ⟨hvalid, State.dataWord_of_memWrite_self h⟩

theorem State.memRead_of_memWrite_of_ne {s t : State} {a b v : Word} (hb : b ≠ a) (h : s.memWrite a v = .ok t) :
    t.memRead b = s.memRead b := by
  unfold State.memRead
  rw [State.dmemValid_of_memWrite h, State.dataWord_of_memWrite_of_ne hb h]

theorem State.readReg_of_memWrite {s t : State} {a v : Word} (h : s.memWrite a v = .ok t) (q : RegIx) :
    t.readReg q = s.readReg q := by
  obtain ⟨-, -, rfl⟩ := s.memWrite_ok t a v h
  rfl

/-- LOAD completes exactly where MemRead answers a word, and with that word (43_memory_extend.md R150). -/
theorem exec_load_next_iff {rdest raddr : RegIx} {s t : State} :
    exec (.load rdest raddr) s = .next t ↔
      ∃ v, s.memRead (s.readReg raddr) = .ok v ∧ t = (s.writeReg rdest v).advance := by
  change execLoad rdest raddr s = .next t ↔ _
  unfold execLoad
  cases s.memRead (s.readReg raddr) with
  | ok v => simp [writeBack, eq_comm]
  | error f => simp

/-- Settles O44: the LOAD of `t` reads what MemRead gives after MemWrite, at the stored address and at another one. -/
theorem loadSeesLatestStor : Obligations.LoadSeesLatestStor := by
  unfold Obligations.LoadSeesLatestStor
  intro s t rs ra rd rb hstor
  obtain ⟨u, hwrite, rfl⟩ := execStor_next hstor
  have haddr : u.advance.readReg rb = s.readReg rb := State.readReg_of_memWrite hwrite rb
  refine ⟨fun heq => ?_, fun hne r hload => ?_⟩
  · have hread : u.advance.memRead (u.advance.readReg rb) = .ok (s.readReg rs) := by
      rw [haddr, heq, State.advance_memRead]
      exact State.memRead_of_memWrite_self hwrite
    exact ⟨_, exec_load_next_iff.mpr ⟨_, hread, rfl⟩, by simp⟩
  · obtain ⟨v, hv, rfl⟩ := exec_load_next_iff.mp hload
    have hread : u.advance.memRead (u.advance.readReg rb) = .ok v := by
      rw [haddr, State.advance_memRead, State.memRead_of_memWrite_of_ne hne hwrite]
      exact hv
    exact ⟨_, exec_load_next_iff.mpr ⟨_, hread, rfl⟩, by simp⟩

end Sys2Proof.Machine

/-!
PROOFS. 30_encoding.md: decoder and encoder invert each other (R72, R73, R85), the words that are no instruction (R86,
R87) and the fault they raise (R88), and the register a row names as written (R73). All facts about `decode` go through
`decode_cases`: three opcodes name the groups that decode by their extension, every other one is an instruction.
-/

namespace Sys2Proof

/-! ## Words and their fields (30_encoding.md R71, R72, R82) -/

/-- The shift immediate is the lowest bit of `ext` in front of `b`. -/
theorem amountField_eq_append (w : Word) : amountField w = (extField w).extractLsb' 0 1 ++ bField w := by
  ext i hi; simp [amountField, extField, bField]; grind

theorem packShift_append (a b : Nibble) (kind sign : BitVec 1) :
    packShift a kind (sign ++ b) = packNibbles 0b1000#4 a (0b00#2 ++ kind ++ sign) b := by
  ext i hi; simp [packShift, packNibbles]; grind

/-- A word is the four nibbles of its fields, and of no other fields. -/
theorem eq_packNibbles_iff (w : Word) (op a ext b : Nibble) :
    w = packNibbles op a ext b ↔ opField w = op ∧ aField w = a ∧ extField w = ext ∧ bField w = b := by
  constructor
  · rintro rfl; simp
  · rintro ⟨rfl, rfl, rfl, rfl⟩; exact (packNibbles_fields w).symm

/-! ## What the decoder can answer (30_encoding.md R74 to R77) -/

theorem decode_of_register (w : Word) (h : opField w = 0b0000#4) :
    decode w = decodeRegister (aField w) (extField w) (bField w) := by
  simp [decode, h]

theorem decode_of_special (w : Word) (h : opField w = 0b0100#4) :
    decode w = decodeSpecial (aField w) (extField w) (bField w) := by
  simp [decode, h]

theorem decode_of_shift (w : Word) (h : opField w = 0b1000#4) :
    decode w = decodeShift (aField w) (extField w) (bField w) (amountField w) := by
  simp [decode, h]

/-- Every opcode but the three of the groups is an instruction with a byte, whose encoding is the word. -/
theorem decode_of_immediate (w : Word) (hr : opField w ≠ 0b0000#4) (hs : opField w ≠ 0b0100#4)
    (hsh : opField w ≠ 0b1000#4) : ∃ i, decode w = .ok i ∧ encode i = w := by
  unfold decode
  split
  case h_1 hop => exact absurd hop hr
  case h_5 hop => exact absurd hop hs
  case h_9 hop => exact absurd hop hsh
  case h_17 =>
    exfalso
    generalize opField w = op at *
    revert op
    decide
  all_goals
    next hop =>
      have hfields := packImmediate_fields w
      rw [hop] at hfields
      exact ⟨_, rfl, by simpa [encode] using hfields⟩

/-- The decoder by the opcode: the Register, Special and Shift groups, and the instructions with a byte. -/
theorem decode_cases (w : Word) :
    (opField w = 0b0000#4 ∧ decode w = decodeRegister (aField w) (extField w) (bField w)) ∨
    (opField w = 0b0100#4 ∧ decode w = decodeSpecial (aField w) (extField w) (bField w)) ∨
    (opField w = 0b1000#4 ∧ decode w = decodeShift (aField w) (extField w) (bField w) (amountField w)) ∨
    ((opField w ≠ 0b0000#4 ∧ opField w ≠ 0b0100#4 ∧ opField w ≠ 0b1000#4) ∧ ∃ i, decode w = .ok i ∧ encode i = w) := by
  by_cases hr : opField w = 0b0000#4
  · exact .inl ⟨hr, decode_of_register w hr⟩
  by_cases hs : opField w = 0b0100#4
  · exact .inr (.inl ⟨hs, decode_of_special w hs⟩)
  by_cases hsh : opField w = 0b1000#4
  · exact .inr (.inr (.inl ⟨hsh, decode_of_shift w hsh⟩))
  · exact .inr (.inr (.inr ⟨⟨hr, hs, hsh⟩, decode_of_immediate w hr hs hsh⟩))

/-! ## Decoding what was encoded (30_encoding.md R73, R85) -/

theorem decode_packNibbles_register (a ext b : Nibble) :
    decode (packNibbles 0b0000#4 a ext b) = decodeRegister a ext b := by
  rw [decode_of_register _ (opField_packNibbles ..)]
  simp

theorem decode_packNibbles_special (a ext b : Nibble) :
    decode (packNibbles 0b0100#4 a ext b) = decodeSpecial a ext b := by
  rw [decode_of_special _ (opField_packNibbles ..)]
  simp

theorem decode_packNibbles_shift (a ext b : Nibble) :
    decode (packNibbles 0b1000#4 a ext b) = decodeShift a ext b (ext.extractLsb' 0 1 ++ b) := by
  rw [decode_of_shift _ (opField_packNibbles ..), amountField_eq_append]
  simp

/-- `kind` alone tells LSHI from ASHUI; the extension's lowest bit belongs to the amount (30_encoding.md R77, R82). -/
theorem decode_packShift (a : Nibble) (kind : BitVec 1) (amount : BitVec 5) :
    decode (packShift a kind amount) =
      .ok (if kind = 0b0#1 then .lshi (regOf a) amount else .ashui (regOf a) amount) := by
  rw [decode_of_shift _ (opField_packShift ..)]
  simp only [aField_packShift, extField_packShift, amountField_packShift]
  obtain hs | hs := BitVec.eq_zero_or_eq_one (amount.extractLsb' 4 1) <;>
    obtain rfl | rfl := BitVec.eq_zero_or_eq_one kind <;> rw [hs] <;> rfl

/-- Settles O1: each instruction's word lies in the group of its format, which reads the fields back. -/
theorem decodeInvertsEncode : Obligations.DecodeInvertsEncode := by
  unfold Obligations.DecodeInvertsEncode
  intro i
  cases i
  case add | addu | addc | mul | sub | subc | cmp | and | or | xor | mov | wait =>
    exact decode_packNibbles_register _ _ _
  case load | stor | snxb | zrxb | jal | tbit | tbiti | lpr | spr | di | ei | excp | retx =>
    exact decode_packNibbles_special _ _ _
  case scond | jcond => simp [encode, decode_packNibbles_special, decodeSpecial]
  case lsh | ashu => exact decode_packNibbles_shift _ _ _
  case lshi | ashui => exact decode_packShift _ _ _
  case addi | addui | addci | muli | subi | subci | cmpi | andi | ori | xori | movi | lui | bcond =>
    simp [encode, decode]

/-! ## Encoding what was decoded (30_encoding.md R73, R85 to R87) -/

theorem fixedWord_eq_ok_iff (a b : Nibble) (i j : Instr) : fixedWord a b i = .ok j ↔ a = 0#4 ∧ b = 0#4 ∧ j = i := by
  unfold fixedWord
  split <;> grind

theorem exceptionWord_eq_ok_iff (a b : Nibble) (j : Instr) :
    exceptionWord a b = .ok j ↔ a = 0#4 ∧ j = .excp (regOf b) := by
  unfold exceptionWord
  split <;> grind

theorem encode_of_decodeRegister (a ext b : Nibble) (i : Instr) (h : decodeRegister a ext b = .ok i) :
    encode i = packNibbles 0b0000#4 a ext b := by
  unfold decodeRegister at h
  split at h
  case h_1 =>
    obtain ⟨rfl, rfl, rfl⟩ := (fixedWord_eq_ok_iff _ _ _ _).mp h
    rfl
  case h_13 => cases h
  all_goals
    cases h
    rfl

theorem encode_of_decodeSpecial (a ext b : Nibble) (i : Instr) (h : decodeSpecial a ext b = .ok i) :
    encode i = packNibbles 0b0100#4 a ext b := by
  unfold decodeSpecial at h
  split at h
  case h_4 | h_8 | h_10 =>
    obtain ⟨rfl, rfl, rfl⟩ := (fixedWord_eq_ok_iff _ _ _ _).mp h
    rfl
  case h_12 =>
    obtain ⟨rfl, rfl⟩ := (exceptionWord_eq_ok_iff _ _ _).mp h
    rfl
  case h_16 => cases h
  all_goals
    cases h
    simp [encode]

/-- The amount of an immediate form holds the extension's lowest bit, so that bit is not lost. -/
theorem encode_of_decodeShift (a ext b : Nibble) (i : Instr)
    (h : decodeShift a ext b (ext.extractLsb' 0 1 ++ b) = .ok i) : encode i = packNibbles 0b1000#4 a ext b := by
  unfold decodeShift at h
  split at h
  case h_7 => cases h
  case h_5 | h_6 => cases h; rfl
  all_goals
    cases h
    exact packShift_append _ _ _ _

/-- Settles O2: each group gives back the four nibbles of the word. -/
theorem encodeInvertsDecode : Obligations.EncodeInvertsDecode := by
  unfold Obligations.EncodeInvertsDecode
  intro w i h
  obtain ⟨hop, hw⟩ | ⟨hop, hw⟩ | ⟨hop, hw⟩ | ⟨-, j, hj, henc⟩ := decode_cases w
  · rw [encode_of_decodeRegister _ _ _ i (hw ▸ h), ← hop, packNibbles_fields]
  · rw [encode_of_decodeSpecial _ _ _ i (hw ▸ h), ← hop, packNibbles_fields]
  · rw [amountField_eq_append] at hw
    rw [encode_of_decodeShift _ _ _ i (hw ▸ h), ← hop, packNibbles_fields]
  · cases hj.symm.trans h
    exact henc

/-! ## The words that are no instruction (30_encoding.md R86, R87) -/

theorem fixedWord_eq_error_iff (a b : Nibble) (i : Instr) (r : Reject) :
    fixedWord a b i = .error r ↔ r = .constantNibble ∧ ¬(a = 0#4 ∧ b = 0#4) := by
  unfold fixedWord
  split <;> grind

theorem exceptionWord_eq_error_iff (a b : Nibble) (r : Reject) :
    exceptionWord a b = .error r ↔ r = .constantNibble ∧ a ≠ 0#4 := by
  unfold exceptionWord
  split <;> grind

theorem decodeRegister_eq_error_iff (a ext b : Nibble) (r : Reject) :
    decodeRegister a ext b = .error r ↔
      (r = .unusedOpcode ∧ ext ∈ [0b0100#4, 0b1000#4, 0b1100#4, 0b1111#4]) ∨
      (r = .constantNibble ∧ ext = 0b0000#4 ∧ ¬(a = 0#4 ∧ b = 0#4)) := by
  unfold decodeRegister
  split
  case h_1 => simp [fixedWord_eq_error_iff]
  case h_13 =>
    have hext : ext ∈ [0b0100#4, 0b1000#4, 0b1100#4, 0b1111#4] := by revert ext; decide
    have hzero : ext ≠ 0b0000#4 := by assumption
    simp only [hext, hzero, Except.error.injEq, and_true, false_and, and_false, or_false]
    exact eq_comm
  all_goals simp

theorem decodeSpecial_eq_error_iff (a ext b : Nibble) (r : Reject) :
    decodeSpecial a ext b = .error r ↔
      (r = .unusedOpcode ∧ ext = 0b1111#4) ∨
      (r = .constantNibble ∧ ((ext ∈ [0b0011#4, 0b0111#4, 0b1001#4] ∧ ¬(a = 0#4 ∧ b = 0#4)) ∨
        (ext = 0b1011#4 ∧ a ≠ 0#4))) := by
  unfold decodeSpecial
  split
  case h_4 | h_8 | h_10 => simp [fixedWord_eq_error_iff]
  case h_12 => simp [exceptionWord_eq_error_iff]
  case h_16 =>
    have hext : ext = 0b1111#4 := by revert ext; decide
    subst hext
    simp [eq_comm (a := Reject.unusedOpcode)]
  all_goals simp

theorem decodeShift_eq_error_iff (a ext b : Nibble) (amount : BitVec 5) (r : Reject) :
    decodeShift a ext b amount = .error r ↔
      r = .unusedOpcode ∧ (ext ∈ [0b0101#4, 0b0111#4] ∨ ext.getLsbD 3 = true) := by
  unfold decodeShift
  split
  case h_7 =>
    have hext : ext ∈ [0b0101#4, 0b0111#4] ∨ ext.getLsbD 3 = true := by revert ext; decide
    simp only [hext, Except.error.injEq, and_true]
    exact eq_comm
  all_goals simp

/-- Bit 7 of a word is the highest bit of `ext`. -/
theorem extField_getLsbD_three (w : Word) : (extField w).getLsbD 3 = w.getLsbD 7 := by
  simp [extField]

/-- Settles O3: each group rejects its own extensions, and no other opcode rejects. -/
theorem unusedOpcodesAreThoseListed : Obligations.UnusedOpcodesAreThoseListed := by
  unfold Obligations.UnusedOpcodesAreThoseListed
  intro w
  rw [← extField_getLsbD_three]
  change _ ↔ (opField w = _ ∧ extField w ∈ _) ∨ (opField w = _ ∧ extField w = _) ∨
    (opField w = _ ∧ (extField w ∈ _ ∨ _))
  obtain ⟨hop, hw⟩ | ⟨hop, hw⟩ | ⟨hop, hw⟩ | ⟨⟨hr, hs, hsh⟩, i, hw, -⟩ := decode_cases w
  · rw [hw, decodeRegister_eq_error_iff]; simp [hop]
  · rw [hw, decodeSpecial_eq_error_iff]; simp [hop]
  · rw [hw, decodeShift_eq_error_iff]; simp [hop]
  · simp [hw, hr, hs, hsh]

/-- A word with the `op` and `ext` of a row of constants is another word than the row's if `a` or `b` is not 0. -/
theorem constantRow_iff (w : Word) (op ext : Nibble) :
    (opField w = op ∧ extField w = ext ∧ w ≠ packNibbles op 0#4 ext 0#4) ↔
      opField w = op ∧ extField w = ext ∧ ¬(aField w = 0#4 ∧ bField w = 0#4) := by
  rw [ne_eq, eq_packNibbles_iff]
  tauto

/-- Settles O4: the rows of constants are in the Register and the Special group; `constantRow_iff` reads `w` being
another word than the row's as a nibble that is not 0. -/
theorem constantNibblesAreRequired : Obligations.ConstantNibblesAreRequired := by
  unfold Obligations.ConstantNibblesAreRequired
  intro w
  change _ ↔ (opField w = _ ∧ extField w = _ ∧ w ≠ packNibbles 0b0000#4 0#4 0b0000#4 0#4) ∨
    (opField w = _ ∧ extField w = _ ∧ w ≠ packNibbles 0b0100#4 0#4 0b0011#4 0#4) ∨
    (opField w = _ ∧ extField w = _ ∧ w ≠ packNibbles 0b0100#4 0#4 0b0111#4 0#4) ∨
    (opField w = _ ∧ extField w = _ ∧ w ≠ packNibbles 0b0100#4 0#4 0b1001#4 0#4) ∨
    (opField w = _ ∧ extField w = _ ∧ aField w ≠ _)
  simp only [constantRow_iff]
  obtain ⟨hop, hw⟩ | ⟨hop, hw⟩ | ⟨hop, hw⟩ | ⟨⟨hr, hs, -⟩, i, hw, -⟩ := decode_cases w
  · rw [hw, decodeRegister_eq_error_iff]; simp [hop]
  · rw [hw, decodeSpecial_eq_error_iff]; simp [hop, or_and_right, or_assoc]
  · rw [hw, decodeShift_eq_error_iff]; simp [hop]
  · simp [hw, hr, hs]

/-- Settles O6: each of the words is the encoder's for its instruction. -/
theorem listedWordsDecode : Obligations.ListedWordsDecode := by
  unfold Obligations.ListedWordsDecode
  exact ⟨decodeInvertsEncode (.add 2 1), decodeInvertsEncode (.addi 2 0xFF#8), decodeInvertsEncode (.or 0 0),
    decodeInvertsEncode (.lsh 2 1), decodeInvertsEncode (.lshi 2 0b11100#5), decodeInvertsEncode (.ashui 2 0b11000#5),
    decodeInvertsEncode (.stor 2 1), decodeInvertsEncode (.scond 2 .lo), decodeInvertsEncode (.bcond .ne 0xFD#8),
    decodeInvertsEncode (.jcond .uc 3), decodeInvertsEncode (.jal 15 3), decodeInvertsEncode (.lpr 2 9),
    decodeInvertsEncode (.spr 9 2), decodeInvertsEncode (.excp 7), decodeInvertsEncode .wait⟩

end Sys2Proof

namespace Sys2Proof.Machine

/-! ## The step at a word that is no instruction (30_encoding.md R85, R88) -/

/-- The other half of `State.fetchInstr_of_decodeFor`: the decoder's reason is not told apart in the fault. -/
theorem State.fetchInstr_of_decodeFor_error (s : State) (w : Word) (r : Reject) (hw : s.codeWord s.pc = some w)
    (hr : decodeFor s.params.profile w = .error r) : s.fetchInstr = .error (.illegalInstruction w) := by
  simp [State.fetchInstr, s.iFetch_of_codeWord s.pc w hw, hr]

/-- Settles O9: the fault of the decoding is the step's. -/
theorem illegalWordFaults : Obligations.IllegalWordFaults := by
  unfold Obligations.IllegalWordFaults
  intro s w r hs hw hr
  exact step_of_fetchInstr_error s _ hs (s.fetchInstr_of_decodeFor_error w r hw hr)

/-! ## The register that a row names as written (30_encoding.md R73) -/

/-- Settles O17: the ways of `Completes` that write a register write the one their row names. -/
theorem registersWrittenAreThoseListed : Obligations.RegistersWrittenAreThoseListed := by
  unfold Obligations.RegistersWrittenAreThoseListed
  intro i s t h q hq
  cases exec_completes h with
  | register _ r v p _ named =>
    have hne : q ≠ r := by rintro rfl; exact hq named
    exact State.readReg_writeReg_of_ne s r q v hne
  | spr rproc rdest =>
    have hne : q ≠ rdest := by rintro rfl; exact hq rfl
    exact State.readReg_writeReg_of_ne s.countDraw rdest q _ hne
  | jal rlink rtarget =>
    have hne : q ≠ rlink := by rintro rfl; exact hq rfl
    exact State.readReg_writeReg_of_ne s rlink q _ hne
  | flags | stor | bcond | jcond | wait => rfl

end Sys2Proof.Machine

/-!
PROOFS. 40_arithmetic.md: what ADD to CMPI write (R101 to R115), the exact sums and differences behind C and F (R116), and
the chaining of words through C (R106, R112; decision D26). The flags of add and subtract rest on two facts about the
written word: with C as its bit 16 it is the exact unsigned result (`addValue_add_carry`, `subValue_add_borrow`), and it is
the exact signed result cut to 16 bits (`addValue_eq_ofInt`, `subValue_eq_ofInt`).
-/

namespace Sys2Proof

/-! ## Words as numbers (30_encoding.md R71, R72) -/

/-- The number of two patterns side by side. -/
theorem append_toNat {m n : Nat} (x : BitVec m) (y : BitVec n) : (x ++ y).toNat = 2 ^ n * x.toNat + y.toNat := by
  rw [BitVec.toNat_append, ← Nat.shiftLeft_add_eq_or_of_lt y.isLt, Nat.shiftLeft_eq, Nat.mul_comm]

theorem packNibbles_toNat (op a ext b : Nibble) :
    (packNibbles op a ext b).toNat = 4096 * op.toNat + 256 * a.toNat + 16 * ext.toNat + b.toNat := by
  simp only [packNibbles, append_toNat]
  omega

theorem packImmediate_toNat (op a : Nibble) (imm : BitVec 8) :
    (packImmediate op a imm).toNat = 4096 * op.toNat + 256 * a.toNat + imm.toNat := by
  simp only [packImmediate, append_toNat]
  omega

@[simp] theorem nibbleOf_toNat (r : RegIx) : (nibbleOf r).toNat = r.val := rfl

/-- The number of an instruction's word decodes to the instruction. -/
theorem decode_ofNat_of_eq_toNat_encode {n : Nat} {i : Instr} (h : n = (encode i).toNat) :
    decode (BitVec.ofNat 16 n) = .ok i := by
  rw [h, BitVec.ofNat_toNat, BitVec.setWidth_eq]
  exact decodeInvertsEncode i

end Sys2Proof

namespace Sys2Proof.Machine

/-! ## The operands (30_encoding.md R79) -/

/-- Sign extension keeps the signed number. -/
@[simp] theorem sext8_toInt (imm : BitVec 8) : (sext8 imm).toInt = imm.toInt :=
  BitVec.toInt_signExtend_of_le (by decide)

/-! ## The words that are written -/

section Values

variable (a b : Word) (c : Bool) (p : Psr)

/-- Without a carry in, the sum has two terms. -/
theorem addValue_false : addValue a b false = BitVec.ofNat 16 (a.toNat + b.toNat) := rfl

theorem subValue_false : subValue a b false = BitVec.ofInt 16 (a.toNat - b.toNat) := by
  simp [subValue]

/-- The signed and the unsigned sum are the same modulo 2^16. -/
theorem addValue_eq_ofInt : addValue a b c = BitVec.ofInt 16 (a.toInt + b.toInt + c.toNat) := by
  simp [addValue, BitVec.ofNat_add, BitVec.ofInt_add]

theorem subValue_eq_ofInt : subValue a b c = BitVec.ofInt 16 (a.toInt - b.toInt - c.toNat) := by
  simp [subValue, sub_eq_add_neg, BitVec.ofInt_add, BitVec.ofInt_neg]

/-- The product modulo 2^16 is the product of words, whichever way they are read. -/
theorem mulValue_eq_mul : mulValue a b = a * b := by
  simp [mulValue, BitVec.ofNat_mul]

theorem mulValue_eq_ofInt : mulValue a b = BitVec.ofInt 16 (a.toInt * b.toInt) := by
  rw [mulValue_eq_mul, BitVec.ofInt_mul, BitVec.ofInt_toInt, BitVec.ofInt_toInt]

/-- `MULI -1` negates (40_arithmetic.md R109). -/
theorem mulValue_sext8_neg_one : mulValue a (sext8 0xFF#8) = -a := by
  have h : sext8 0xFF#8 = -1#16 := rfl
  rw [mulValue_eq_mul, h, BitVec.mul_neg, BitVec.mul_one]

/-! ## The flags -/

/-- C and F of ADD: the two-term sums (40_arithmetic.md R101, R102). -/
theorem addFlags_false :
    addFlags a b false p =
      { p with c := decide (65535 < a.toNat + b.toNat), f := signedOverflow (a.toInt + b.toInt) } := by
  simp [addFlags]

/-- C and F of SUB: the two-term difference (40_arithmetic.md R101, R110). -/
theorem subFlags_false :
    subFlags a b false p =
      { p with c := decide (a.toNat < b.toNat), f := signedOverflow (a.toInt - b.toInt) } := by
  simp [subFlags]

/-- The written word with C as its bit 16 is the exact unsigned sum. -/
theorem addValue_add_carry :
    (addValue a b c).toNat + 65536 * (addFlags a b c p).c.toNat = a.toNat + b.toNat + c.toNat := by
  have hc : c.toNat ≤ 1 := Bool.toNat_le c
  simp only [addValue, addFlags, BitVec.toNat_ofNat]
  generalize c.toNat = k at *
  simp only [Bool.toNat, Bool.cond_decide]
  split <;> omega

/-- The written word less the borrow, at bit 16, is the exact unsigned difference. -/
theorem subValue_add_borrow :
    (subValue a b c).toNat + b.toNat + c.toNat = a.toNat + 65536 * (subFlags a b c p).c.toNat := by
  have hc : c.toNat ≤ 1 := Bool.toNat_le c
  simp only [subValue, subFlags, BitVec.toNat_ofInt]
  generalize c.toNat = k at *
  simp only [Bool.toNat, Bool.cond_decide]
  split <;> omega

/-- There is no signed overflow exactly where cutting to 16 bits loses nothing. -/
theorem signedOverflow_eq_false_iff (r : Int) : signedOverflow r = false ↔ (BitVec.ofInt 16 r).toInt = r := by
  simp only [signedOverflow, decide_eq_false_iff_not]
  refine ⟨fun h => BitVec.toInt_ofInt_eq_self (by decide) (by omega) (by omega), fun h => ?_⟩
  have hlow := (BitVec.ofInt 16 r).le_toInt
  have hhigh := (BitVec.ofInt 16 r).toInt_lt
  omega

end Values

section Inexactness

variable (a b : Word) (c : Bool) (p : Psr)

theorem addFlags_c_eq_false_iff :
    (addFlags a b c p).c = false ↔ (addValue a b c).toNat = a.toNat + b.toNat + c.toNat := by
  have hsum := addValue_add_carry a b c p
  rw [← Bool.toNat_eq_zero]
  omega

theorem addFlags_f_eq_false_iff :
    (addFlags a b c p).f = false ↔ (addValue a b c).toInt = a.toInt + b.toInt + c.toNat := by
  rw [addValue_eq_ofInt]
  exact signedOverflow_eq_false_iff _

theorem subFlags_c_eq_false_iff :
    (subFlags a b c p).c = false ↔ ((subValue a b c).toNat : Int) = a.toNat - b.toNat - c.toNat := by
  have hdiff := subValue_add_borrow a b c p
  rw [← Bool.toNat_eq_zero]
  omega

theorem subFlags_f_eq_false_iff :
    (subFlags a b c p).f = false ↔ (subValue a b c).toInt = a.toInt - b.toInt - c.toNat := by
  rw [subValue_eq_ofInt]
  exact signedOverflow_eq_false_iff _

end Inexactness

/-! ## Two words in a chain (40_arithmetic.md R106, R112)

A pair of words `hi ++ lo` as a number is `65536 * hi + lo`, `lo` unsigned. The low word's C is what the low words carry
into, or borrow from, the high ones. -/

section Chain

variable (hi lo hi' lo' : Word) (p q : Psr)

/-- The signed number of a pair: only the high word has a sign. -/
theorem append_toInt : (hi ++ lo).toInt = 65536 * hi.toInt + lo.toNat := BitVec.toInt_append

theorem addValue_add_carry_low :
    (addValue lo lo' false).toNat + 65536 * (addFlags lo lo' false p).c.toNat = lo.toNat + lo'.toNat :=
  addValue_add_carry lo lo' false p

theorem subValue_add_borrow_low :
    (subValue lo lo' false).toNat + lo'.toNat = lo.toNat + 65536 * (subFlags lo lo' false p).c.toNat :=
  subValue_add_borrow lo lo' false p

theorem addValue_append :
    addValue hi hi' (addFlags lo lo' false p).c ++ addValue lo lo' false = (hi ++ lo) + (hi' ++ lo') := by
  have hlow := addValue_add_carry_low lo lo' p
  have hhigh := addValue_add_carry hi hi' (addFlags lo lo' false p).c p
  refine BitVec.eq_of_toNat_eq ?_
  rw [BitVec.toNat_add, append_toNat, append_toNat, append_toNat]
  omega

theorem addFlags_c_append :
    (addFlags hi hi' (addFlags lo lo' false p).c q).c = decide ((hi ++ lo).toNat + (hi' ++ lo').toNat ≥ 2 ^ 32) := by
  have hlow := addValue_add_carry_low lo lo' p
  rw [append_toNat, append_toNat]
  refine decide_eq_decide.mpr ?_
  omega

theorem addFlags_f_append :
    (addFlags hi hi' (addFlags lo lo' false p).c q).f =
      decide ((hi ++ lo).toInt + (hi' ++ lo').toInt < -2 ^ 31 ∨ (hi ++ lo).toInt + (hi' ++ lo').toInt ≥ 2 ^ 31) := by
  have hlow := addValue_add_carry_low lo lo' p
  rw [append_toInt, append_toInt]
  refine decide_eq_decide.mpr ?_
  omega

theorem subValue_append :
    subValue hi hi' (subFlags lo lo' false p).c ++ subValue lo lo' false = (hi ++ lo) - (hi' ++ lo') := by
  have hlow := subValue_add_borrow_low lo lo' p
  have hhigh := subValue_add_borrow hi hi' (subFlags lo lo' false p).c p
  refine BitVec.eq_of_toNat_eq ?_
  rw [BitVec.toNat_sub, append_toNat, append_toNat, append_toNat]
  omega

theorem subFlags_c_append :
    (subFlags hi hi' (subFlags lo lo' false p).c q).c = decide ((hi' ++ lo').toNat > (hi ++ lo).toNat) := by
  have hlow := subValue_add_borrow_low lo lo' p
  rw [append_toNat, append_toNat]
  refine decide_eq_decide.mpr ?_
  omega

theorem subFlags_f_append :
    (subFlags hi hi' (subFlags lo lo' false p).c q).f =
      decide ((hi ++ lo).toInt - (hi' ++ lo').toInt < -2 ^ 31 ∨ (hi ++ lo).toInt - (hi' ++ lo').toInt ≥ 2 ^ 31) := by
  have hlow := subValue_add_borrow_low lo lo' p
  rw [append_toInt, append_toInt]
  refine decide_eq_decide.mpr ?_
  omega

end Chain

/-! ## The shapes when they complete -/

section Shapes

variable {s t : State} {r : RegIx} {b : Word} {c : Bool}

theorem addWithFlags_next (h : addWithFlags r b c s = .next t) :
    RegResult s t r (addValue (s.readReg r) b c) (addFlags (s.readReg r) b c s.psr) := by
  cases h
  exact regResult_of_write s r _ _

theorem subWithFlags_next (h : subWithFlags r b c s = .next t) :
    RegResult s t r (subValue (s.readReg r) b c) (subFlags (s.readReg r) b c s.psr) := by
  cases h
  exact regResult_of_write s r _ _

end Shapes

/-! ## The results of the instructions (40_arithmetic.md R102 to R115) -/

/-- Settles O22: both forms are `addWithFlags` without a carry in. -/
theorem addResult : Obligations.AddResult := by
  unfold Obligations.AddResult
  intro s rd rs imm
  have hreg := addWithFlags_result rd (s.readReg rs) false s
  have himm := addWithFlags_result rd (sext8 imm) false s
  rw [addValue_false, addFlags_false] at hreg himm
  rw [sext8_toInt] at himm
  exact ⟨hreg, himm⟩

/-- Settles O23: the word is the encoder's, and `writeBack` keeps the PSR. -/
theorem adduResult : Obligations.AdduResult := by
  unfold Obligations.AdduResult
  intro s rd rs
  have hword : 0x0060 + 256 * rd.val + rs.val = (encode (.addu rd rs)).toNat := by
    simp only [encode, packNibbles_toNat, nibbleOf_toNat, BitVec.toNat_ofNat]
    omega
  exact ⟨decode_ofNat_of_eq_toNat_encode hword, writeBack_result rd _ s⟩

/-- Settles O24: as ADDU, with the sign-extended immediate. -/
theorem adduiResult : Obligations.AdduiResult := by
  unfold Obligations.AdduiResult
  exact fun s rd imm => writeBack_result rd (addValue (s.readReg rd) (sext8 imm) false) s

/-- Settles O25: both forms are `addWithFlags` with the old C. -/
theorem addcResult : Obligations.AddcResult := by
  unfold Obligations.AddcResult
  intro s rd rs imm
  have himm := addWithFlags_result rd (sext8 imm) s.psr.c s
  rw [addFlags, sext8_toInt] at himm
  exact ⟨addWithFlags_result rd (s.readReg rs) s.psr.c s, himm⟩

/-- Settles O26: `mulValue_eq_ofInt` gives the signed reading. -/
theorem mulResult : Obligations.MulResult := by
  unfold Obligations.MulResult
  intro s rd rs
  obtain ⟨t, ht, hresult⟩ := writeBack_result rd (mulValue (s.readReg rd) (s.readReg rs)) s
  exact ⟨t, ht, hresult, hresult.regs.value.trans (mulValue_eq_ofInt _ _)⟩

/-- Settles O27: the word is the encoder's, and -1 negates by `mulValue_sext8_neg_one`. -/
theorem muliResult : Obligations.MuliResult := by
  unfold Obligations.MuliResult
  intro s rd imm
  have hword : 0xE000 + 256 * rd.val + imm.toNat = (encode (.muli rd imm)).toNat := by
    simp only [encode, packImmediate_toNat, nibbleOf_toNat, BitVec.toNat_ofNat]
  obtain ⟨t, ht, hresult⟩ := writeBack_result rd (mulValue (s.readReg rd) (sext8 imm)) s
  refine ⟨decode_ofNat_of_eq_toNat_encode hword, t, ht, hresult, ?_⟩
  rintro rfl
  exact hresult.regs.value.trans (mulValue_sext8_neg_one _)

/-- Settles O28: both forms are `subWithFlags` without a borrow in. -/
theorem subResult : Obligations.SubResult := by
  unfold Obligations.SubResult
  intro s rd rs imm
  have hreg := subWithFlags_result rd (s.readReg rs) false s
  have himm := subWithFlags_result rd (sext8 imm) false s
  rw [subValue_false, subFlags_false] at hreg himm
  rw [sext8_toInt] at himm
  exact ⟨hreg, himm⟩

/-- Settles O29: both forms are `subWithFlags` with the old C. -/
theorem subcResult : Obligations.SubcResult := by
  unfold Obligations.SubcResult
  intro s rd rs imm
  have himm := subWithFlags_result rd (sext8 imm) s.psr.c s
  rw [subFlags, sext8_toInt] at himm
  exact ⟨subWithFlags_result rd (s.readReg rs) s.psr.c s, himm⟩

/-- Settles O30: both forms are `compareWith`, which writes no register. -/
theorem cmpResult : Obligations.CmpResult := by
  unfold Obligations.CmpResult
  intro s rd rs imm
  have himm := compareWith_result rd (sext8 imm) s
  rw [cmpFlags, sext8_toInt] at himm
  exact ⟨compareWith_result rd (s.readReg rs) s, himm⟩

/-! ## Exact results and double words (40_arithmetic.md R116; decision D26) -/

/-- Settles O32: the flags are read against the written word, without a carry or a borrow in. -/
theorem carryAndFlagReportInexactness : Obligations.CarryAndFlagReportInexactness := by
  unfold Obligations.CarryAndFlagReportInexactness
  intro s t rd rs
  refine ⟨fun h => ?_, fun h => ?_⟩
  · have hresult := addWithFlags_next h
    rw [hresult.psr, hresult.regs.value, addFlags_c_eq_false_iff, addFlags_f_eq_false_iff]
    simp
  · have hresult := subWithFlags_next h
    rw [hresult.psr, hresult.regs.value, subFlags_c_eq_false_iff, subFlags_f_eq_false_iff]
    simp

/-- Settles O33: the low destination is none of the high registers, so the second instruction reads the old high words
and the first one's C, and leaves the low result alone; the pairs then chain. -/
theorem carryChainsDoubleWords : Obligations.CarryChainsDoubleWords := by
  unfold Obligations.CarryChainsDoubleWords
  rintro s t r lo hi lo' hi' x y hne hne' rfl rfl
  refine ⟨fun hlow hhigh => ?_, fun hlow hhigh => ?_⟩
  · have hlowResult := addWithFlags_next hlow
    have hhighResult := addWithFlags_next hhigh
    rw [hhighResult.psr, hhighResult.regs.value, hhighResult.regs.others lo hne, hlowResult.regs.value,
      hlowResult.regs.others hi hne.symm, hlowResult.regs.others hi' hne'.symm, hlowResult.psr]
    exact ⟨addValue_append _ _ _ _ _, addFlags_c_append _ _ _ _ _ _, addFlags_f_append _ _ _ _ _ _⟩
  · have hlowResult := subWithFlags_next hlow
    have hhighResult := subWithFlags_next hhigh
    rw [hhighResult.psr, hhighResult.regs.value, hhighResult.regs.others lo hne, hlowResult.regs.value,
      hlowResult.regs.others hi hne.symm, hlowResult.regs.others hi' hne'.symm, hlowResult.psr]
    exact ⟨subValue_append _ _ _ _ _, subFlags_c_append _ _ _ _ _ _, subFlags_f_append _ _ _ _ _ _⟩

end Sys2Proof.Machine

/-!
PROOFS. 41_logical_move.md: what AND to MOVI write (R120 to R127). All eight are `writeBack`, which keeps the PSR (R128);
the immediate forms rest on the two readings of a zero-extended byte (30_encoding.md R80): the number of the byte
(`zext8_eq_ofNat`), and a word whose upper byte is 0 (`zext8_upperByte`).
-/

namespace Sys2Proof

/-! ## The words of the register and the immediate forms (30_encoding.md R72, R73) -/

/-- A word of format RR as a number: `op` and `ext` give the base, `Rdest` and `Rsrc` are added in their places. -/
theorem decode_ofNat_of_encode_eq_packNibbles {i : Instr} {op ext : Nibble} {rd rs : RegIx} {base : Nat}
    (hi : encode i = packNibbles op (nibbleOf rd) ext (nibbleOf rs))
    (hbase : base = 4096 * op.toNat + 16 * ext.toNat) :
    decode (BitVec.ofNat 16 (base + 256 * rd.val + rs.val)) = .ok i := by
  refine decode_ofNat_of_eq_toNat_encode ?_
  rw [hi, packNibbles_toNat, nibbleOf_toNat, nibbleOf_toNat, hbase]
  omega

/-- A word of format RI as a number: `op` gives the base, `Rdest` and the immediate are added in their places. -/
theorem decode_ofNat_of_encode_eq_packImmediate {i : Instr} {op : Nibble} {rd : RegIx} {imm : BitVec 8} {base : Nat}
    (hi : encode i = packImmediate op (nibbleOf rd) imm) (hbase : base = 4096 * op.toNat) :
    decode (BitVec.ofNat 16 (base + 256 * rd.val + imm.toNat)) = .ok i := by
  refine decode_ofNat_of_eq_toNat_encode ?_
  rw [hi, packImmediate_toNat, nibbleOf_toNat, hbase]

end Sys2Proof

namespace Sys2Proof.Machine

/-! ## The zero-extended immediate (30_encoding.md R80) -/

/-- Zero extension keeps the unsigned number. -/
theorem zext8_eq_ofNat (imm : BitVec 8) : zext8 imm = BitVec.ofNat 16 imm.toNat :=
  (BitVec.ofNat_toNat 16 imm).symm

/-- Every bit of the upper byte lies above the eight bits of the immediate. -/
theorem zext8_upperByte (imm : BitVec 8) : (zext8 imm).extractLsb' 8 8 = 0#8 := by
  refine BitVec.eq_of_getLsbD_eq fun k _ => ?_
  simp [zext8]

/-- A zero-extended immediate clears the upper byte under AND. -/
theorem and_zext8_upperByte (v : Word) (imm : BitVec 8) : (v &&& zext8 imm).extractLsb' 8 8 = 0#8 := by
  rw [BitVec.extractLsb'_and, zext8_upperByte, BitVec.and_zero]

/-- A zero-extended immediate leaves the upper byte alone under XOR. -/
theorem xor_zext8_upperByte (v : Word) (imm : BitVec 8) :
    (v ^^^ zext8 imm).extractLsb' 8 8 = v.extractLsb' 8 8 := by
  rw [BitVec.extractLsb'_xor, zext8_upperByte, BitVec.xor_zero]

/-! ## Writing a register and nothing else -/

section WriteBack

variable {s t : State} {r : RegIx} {v : Word}

theorem writeBack_next (h : writeBack r v s = .next t) : RegResult s t r v s.psr := by
  cases h
  exact regResult_of_write s r v s.psr

/-- A register that is given the value it has: only the pc changes. -/
theorem RegResult.pcResult_of_readReg (h : RegResult s t r (s.readReg r) s.psr) : PcResult s t (s.pc + 1#16) where
  regs q := by
    by_cases hq : q = r
    · rw [hq]
      exact h.regs.value
    · exact h.regs.others q hq
  psr := h.psr
  pc := h.pc
  memory := h.memory
  control := h.control

end WriteBack

/-! ## The results of the instructions (41_logical_move.md R120 to R127) -/

/-- Settles O34: the words are the encoder's; of a word with itself, the and is the word and the exclusive-or is 0. -/
theorem andXorResult : Obligations.AndXorResult := by
  unfold Obligations.AndXorResult
  intro s rd rs
  have handSelf : ∀ t, exec (.and rd rd) s = .next t → t.readReg rd = s.readReg rd := fun t h =>
    (writeBack_next h).regs.value.trans BitVec.and_self
  have hxorSelf : ∀ t, exec (.xor rd rd) s = .next t → t.readReg rd = 0#16 := fun t h =>
    (writeBack_next h).regs.value.trans BitVec.xor_self
  exact ⟨decode_ofNat_of_encode_eq_packNibbles rfl rfl, writeBack_result rd _ s,
    decode_ofNat_of_encode_eq_packNibbles rfl rfl, writeBack_result rd _ s, handSelf, hxorSelf⟩

/-- Settles O35: the upper byte of the immediate is 0, which clears that of an and and keeps that of an exclusive-or. -/
theorem andiXoriResult : Obligations.AndiXoriResult := by
  unfold Obligations.AndiXoriResult
  intro s rd imm
  rw [← zext8_eq_ofNat]
  obtain ⟨t, ht, hand⟩ := writeBack_result rd (s.readReg rd &&& zext8 imm) s
  obtain ⟨u, hu, hxor⟩ := writeBack_result rd (s.readReg rd ^^^ zext8 imm) s
  have handUpper : (t.readReg rd).extractLsb' 8 8 = 0#8 := by
    rw [hand.regs.value, and_zext8_upperByte]
  have hxorUpper : (u.readReg rd).extractLsb' 8 8 = (s.readReg rd).extractLsb' 8 8 := by
    rw [hxor.regs.value, xor_zext8_upperByte]
  exact ⟨decode_ofNat_of_encode_eq_packImmediate rfl rfl, ⟨t, ht, hand, handUpper⟩,
    decode_ofNat_of_encode_eq_packImmediate rfl rfl, u, hu, hxor, hxorUpper⟩

/-- Settles O36: of a word with itself, the or is the word, and writing back what a register holds moves only the pc. -/
theorem orResult : Obligations.OrResult := by
  unfold Obligations.OrResult
  intro s rd rs imm
  rw [← zext8_eq_ofNat]
  obtain ⟨t, ht, hor⟩ := writeBack_result rd (s.readReg rd ||| s.readReg rd) s
  rw [BitVec.or_self] at hor
  exact ⟨writeBack_result rd _ s, writeBack_result rd _ s, t, ht, hor.pcResult_of_readReg⟩

/-- Settles O37: the words are the encoder's, and the written word is the source's. -/
theorem movResult : Obligations.MovResult := by
  unfold Obligations.MovResult
  intro s rd rs imm
  rw [← zext8_eq_ofNat]
  exact ⟨decode_ofNat_of_encode_eq_packNibbles rfl rfl, writeBack_result rd _ s,
    decode_ofNat_of_encode_eq_packImmediate rfl rfl, writeBack_result rd _ s⟩

end Sys2Proof.Machine

/-!
PROOFS. 42_shift_lui.md: what LSH to LUI write (R135 to R142). The four shifts are `shiftBy`, and the two shift functions
are read on numbers, as R135 states them (`logicalShift_of_nonneg`, `logicalShift_of_neg`, `arithmeticShift_of_neg`). An
amount of five bits is its sign bit, worth -16, and its low four bits (`immediateAmount_eq`). LUI and then ORI load a word
because both immediates are two bytes side by side (`zext8_eq_append`).
-/

namespace Sys2Proof

/-! ## The word of the shift immediate form (30_encoding.md R72, R77) -/

theorem packShift_toNat (a : Nibble) (kind : BitVec 1) (amount : BitVec 5) :
    (packShift a kind amount).toNat = 32768 + 256 * a.toNat + 32 * kind.toNat + amount.toNat := by
  simp only [packShift, append_toNat, BitVec.toNat_ofNat]
  omega

end Sys2Proof

namespace Sys2Proof.Machine

/-! ## The amounts (30_encoding.md R82; 42_shift_lui.md R136, R140) -/

/-- The five bits `s :: ImmLo` read as the spec reads them: `s` takes 16 off the number of ImmLo (decision D28). -/
theorem immediateAmount_eq (k : BitVec 5) :
    immediateAmount k =
      if k.getLsbD 4 then ((k.extractLsb' 0 4).toNat : Int) - 16 else (k.extractLsb' 0 4).toNat := by
  have happend : k.extractLsb' 4 1 ++ k.extractLsb' 0 4 = k := BitVec.extractLsb'_append_extractLsb'
  have hvalue : k.toInt = 16 * (k.extractLsb' 4 1).toInt + (k.extractLsb' 0 4).toNat := by
    conv_lhs => rw [← happend, BitVec.toInt_append]
    rfl
  have hsign : k.getLsbD 4 = (k.extractLsb' 4 1).getLsbD 0 := by simp
  rw [immediateAmount, hvalue, hsign]
  obtain hs | hs := BitVec.eq_zero_or_eq_one (k.extractLsb' 4 1)
  · simp [hs]
  · simp [hs, sub_eq_add_neg, add_comm]

/-- Five bits reach from -16 to 15, one amount further down than the source allows (42_shift_lui.md R140). -/
theorem immediateAmount_bounds (k : BitVec 5) : -16 ≤ immediateAmount k ∧ immediateAmount k ≤ 15 :=
  ⟨k.le_toInt, k.toInt_le⟩

/-- A word whose signed number fits in five bits is the sign extension of its low five bits. -/
theorem extractLsb'_five_toInt (v : Word) (hlow : -16 ≤ v.toInt) (hhigh : v.toInt ≤ 15) :
    (v.extractLsb' 0 5).toInt = v.toInt := by
  have hself : v.toInt.bmod 32 = v.toInt := Int.bmod_eq_of_le (by omega) (by omega)
  rw [BitVec.toInt_extractLsb', Nat.shiftRight_zero, ← hself, BitVec.toInt_eq_toNat_bmod v]
  exact (Int.bmod_bmod_of_dvd (by decide)).symm

/-! ## The shift functions on numbers (42_shift_lui.md R135) -/

section ShiftFunctions

variable {n : Int} (a : Word)

/-- A left shift multiplies. -/
theorem logicalShift_of_nonneg (h : 0 ≤ n) : logicalShift a n = BitVec.ofNat 16 (a.toNat * 2 ^ n.toNat) := by
  rw [logicalShift, if_pos h]
  refine BitVec.eq_of_toNat_eq ?_
  rw [BitVec.toNat_shiftLeft, BitVec.toNat_ofNat, Nat.shiftLeft_eq]

/-- A right shift that zeros enter divides the unsigned number. -/
theorem logicalShift_of_neg (h : n < 0) : logicalShift a n = BitVec.ofNat 16 (a.toNat / 2 ^ (-n).toNat) := by
  rw [logicalShift, if_neg (by omega), ← Nat.shiftRight_eq_div_pow, ← BitVec.toNat_ushiftRight, BitVec.ofNat_toNat,
    BitVec.setWidth_eq]

/-- To the left both shifts are the same. -/
theorem arithmeticShift_of_nonneg (h : 0 ≤ n) : arithmeticShift a n = logicalShift a n := by
  rw [arithmeticShift, logicalShift, if_pos h, if_pos h]

/-- A right shift that the sign enters divides the signed number. -/
theorem arithmeticShift_of_neg (h : n < 0) :
    arithmeticShift a n = BitVec.ofInt 16 (a.toInt / 2 ^ (-n).toNat) := by
  have hdiv : (a.sshiftRight (-n).toNat).toInt = a.toInt / 2 ^ (-n).toNat := by
    rw [BitVec.toInt_sshiftRight, Int.shiftRight_eq_div_pow, Nat.cast_pow, Nat.cast_ofNat]
  rw [arithmeticShift, if_neg (by omega), ← hdiv, BitVec.ofInt_toInt]

end ShiftFunctions

/-! ## The shape of the shifts, by the direction of the amount -/

section ShiftBy

variable (r : RegIx) {n : Int} (s : State)

theorem shiftBy_logicalShift_left (h0 : 0 ≤ n) (h : n ≤ 15) :
    ∃ t, shiftBy logicalShift r n s = .next t ∧
      RegResult s t r (BitVec.ofNat 16 ((s.readReg r).toNat * 2 ^ n.toNat)) s.psr :=
  logicalShift_of_nonneg (s.readReg r) h0 ▸ shiftBy_inRange logicalShift r n s ⟨by omega, h⟩

theorem shiftBy_logicalShift_right (h : -15 ≤ n) (h0 : n < 0) :
    ∃ t, shiftBy logicalShift r n s = .next t ∧
      RegResult s t r (BitVec.ofNat 16 ((s.readReg r).toNat / 2 ^ (-n).toNat)) s.psr :=
  logicalShift_of_neg (s.readReg r) h0 ▸ shiftBy_inRange logicalShift r n s ⟨h, by omega⟩

theorem shiftBy_arithmeticShift_left (h0 : 0 ≤ n) (h : n ≤ 15) :
    ∃ t, shiftBy arithmeticShift r n s = .next t ∧
      RegResult s t r (BitVec.ofNat 16 ((s.readReg r).toNat * 2 ^ n.toNat)) s.psr := by
  rw [← logicalShift_of_nonneg _ h0, ← arithmeticShift_of_nonneg _ h0]
  exact shiftBy_inRange arithmeticShift r n s ⟨by omega, h⟩

theorem shiftBy_arithmeticShift_right (h : -15 ≤ n) (h0 : n < 0) :
    ∃ t, shiftBy arithmeticShift r n s = .next t ∧
      RegResult s t r (BitVec.ofInt 16 ((s.readReg r).toInt / 2 ^ (-n).toNat)) s.psr :=
  arithmeticShift_of_neg (s.readReg r) h0 ▸ shiftBy_inRange arithmeticShift r n s ⟨h, by omega⟩

end ShiftBy

/-! ## The immediates of LUI and ORI as two bytes (30_encoding.md R80, R81) -/

theorem upperImmediate_eq_ofNat (imm : BitVec 8) : upperImmediate imm = BitVec.ofNat 16 (256 * imm.toNat) := by
  refine BitVec.eq_of_toNat_eq ?_
  rw [upperImmediate, append_toNat, BitVec.toNat_ofNat, BitVec.toNat_ofNat]
  omega

theorem zext8_eq_append (imm : BitVec 8) : zext8 imm = 0#8 ++ imm :=
  BitVec.setWidth_eq_append (by decide)

/-- The upper immediate and the zero-extended one fill the two bytes of a word (41_logical_move.md R123). -/
theorem upperImmediate_or_zext8 (v : Word) :
    upperImmediate (v.extractLsb' 8 8) ||| zext8 (v.extractLsb' 0 8) = v :=
  calc upperImmediate (v.extractLsb' 8 8) ||| zext8 (v.extractLsb' 0 8)
    _ = (v.extractLsb' 8 8 ||| 0#8) ++ (0#8 ||| v.extractLsb' 0 8) := by
      rw [upperImmediate, zext8_eq_append, BitVec.or_append]
    _ = v.extractLsb' 8 8 ++ v.extractLsb' 0 8 := by rw [BitVec.or_zero, BitVec.zero_or]
    _ = v := BitVec.extractLsb'_append_extractLsb'

/-! ## The results of the instructions (42_shift_lui.md R136 to R142) -/

/-- Settles O38: the word is the encoder's; an amount in range is cut to five bits without loss. -/
theorem lshResult : Obligations.LshResult := by
  unfold Obligations.LshResult
  rintro s rd ra n rfl
  exact ⟨decode_ofNat_of_encode_eq_packNibbles rfl rfl,
    fun h0 h => shiftBy_logicalShift_left rd s h0 h,
    fun h h0 => shiftBy_logicalShift_right rd s h h0,
    fun hlow hhigh => extractLsb'_five_toInt _ (by omega) hhigh,
    fun h => shiftBy_outOfRange _ rd _ s h⟩

/-- Settles O39: as LSH, where five bits leave -16 as the only amount out of range. -/
theorem lshiResult : Obligations.LshiResult := by
  unfold Obligations.LshiResult
  intro s rd k n hn
  rw [← immediateAmount_eq] at hn
  subst hn
  have hword : 0x8000 + 256 * rd.val + k.toNat = (encode (.lshi rd k)).toNat := by
    rw [encode, packShift_toNat, nibbleOf_toNat, BitVec.toNat_ofNat]
    omega
  obtain ⟨hlow, hhigh⟩ := immediateAmount_bounds k
  refine ⟨decode_ofNat_of_eq_toNat_encode hword,
    fun h0 => shiftBy_logicalShift_left rd s h0 hhigh,
    fun h0 hne => shiftBy_logicalShift_right rd s (by omega) h0, fun h => ?_⟩
  rw [← h]
  exact shiftBy_outOfRange _ rd _ s (by omega)

/-- Settles O40: both forms are `shiftBy` with the arithmetic shift, by their own reading of the amount. -/
theorem ashuResult : Obligations.AshuResult := by
  unfold Obligations.AshuResult
  intro s rd ra k n i hi
  have hexec : exec i s = shiftBy arithmeticShift rd n s := by
    obtain ⟨rfl, rfl⟩ | ⟨rfl, rfl⟩ := hi
    · rfl
    · rw [← immediateAmount_eq]
      rfl
  rw [hexec]
  exact ⟨shiftBy_arithmeticShift_left rd s, shiftBy_arithmeticShift_right rd s, shiftBy_outOfRange _ rd n s⟩

/-- Settles O41: ORI reads the register that LUI has just written, whose low byte is 0. -/
theorem luiResult : Obligations.LuiResult := by
  unfold Obligations.LuiResult
  refine ⟨fun s rd imm => ?_, fun s rd v => ?_⟩
  · rw [← upperImmediate_eq_ofNat]
    exact writeBack_result rd _ s
  · obtain ⟨t, ht, hlui⟩ := writeBack_result rd (upperImmediate (v.extractLsb' 8 8)) s
    obtain ⟨r, hr, hori⟩ := writeBack_result rd (t.readReg rd ||| zext8 (v.extractLsb' 0 8)) t
    refine ⟨t, r, ht, hr, ?_⟩
    rw [hori.regs.value, hlui.regs.value, upperImmediate_or_zext8]

end Sys2Proof.Machine

/-!
PROOFS. 43_memory_extend.md: what LOAD, STOR, SNXB and ZRXB do (R150, R151, R153, R154). LOAD and STOR answer what
MemRead and MemWrite answer (20_memory.md R56, R57), so each case of the two is one equation of the primitive
(`State.memRead_of_dmemValid_eq_false`, `State.memWrite_of_inImage` and the like). SNXB and ZRXB are `writeBack` of the
low byte extended.
-/

namespace Sys2Proof.Machine

/-! ## Valid data addresses (20_memory.md R55; decision D4) -/

section DataAddresses

variable {s : State} {a : Word}

/-- With no range listed, the spec's DMEM_VALID, every address is valid. -/
theorem State.dmemValid_of_dmemHoles_eq_nil (h : s.params.dmemHoles = []) (a : Word) : s.dmemValid a = true := by
  rw [State.dmemValid_iff, h]
  exact fun hole hmem => absurd hmem List.not_mem_nil

/-- An address inside a listed range, its ends included, is not valid. -/
theorem State.dmemValid_eq_false_of_mem {first last : Nat} (hmem : (first, last) ∈ s.params.dmemHoles)
    (hfirst : first ≤ a.toNat) (hlast : a.toNat ≤ last) : s.dmemValid a = false := by
  rw [← Bool.not_eq_true, State.dmemValid_iff]
  intro hvalid
  have hout : a.toNat < first ∨ last < a.toNat := hvalid _ hmem
  omega

end DataAddresses

/-! ## The cases of MemRead and MemWrite (20_memory.md R56, R57) -/

section Primitives

variable {s : State} {a v : Word}

theorem State.memRead_of_dmemValid_eq_false (h : s.dmemValid a = false) :
    s.memRead a = .error (.invalidDataAddress a) := by
  simp [State.memRead, h]

theorem State.memRead_of_dataWord_eq_none (hvalid : s.dmemValid a = true) (hword : s.dataWord a = none) :
    s.memRead a = .error (.readOfUnwrittenState (.dmem a)) := by
  simp [State.memRead, hvalid, hword]

/-- The converse of `State.memWrite_ok`. -/
theorem State.memWrite_of_dmemValid (hvalid : s.dmemValid a = true)
    (hcode : ¬(s.params.unifiedMemory = true ∧ s.inImage a = true)) :
    s.memWrite a v = .ok { s with dmem := s.dmem.write a.toNat v } := by
  simp [State.memWrite, hvalid, hcode]

theorem State.memWrite_of_dmemValid_eq_false (h : s.dmemValid a = false) :
    s.memWrite a v = .error (.invalidDataAddress a) := by
  simp [State.memWrite, h]

theorem State.memWrite_of_inImage (hvalid : s.dmemValid a = true) (hunified : s.params.unifiedMemory = true)
    (himage : s.inImage a = true) : s.memWrite a v = .error (.storeToCode a) := by
  simp [State.memWrite, hvalid, hunified, himage]

end Primitives

/-! ## LOAD and STOR by the answer of the primitive (43_memory_extend.md R150, R151) -/

section LoadStor

variable {s t : State} {r ra : RegIx}

theorem exec_load_of_memRead_ok {v : Word} (h : s.memRead (s.readReg ra) = .ok v) :
    ∃ t, exec (.load r ra) s = .next t ∧ RegResult s t r v s.psr :=
  ⟨_, exec_load_next_iff.mpr ⟨v, h, rfl⟩, regResult_of_write s r v s.psr⟩

theorem exec_load_of_memRead_error {f : Fault} (h : s.memRead (s.readReg ra) = .error f) :
    exec (.load r ra) s = .fault f := by
  change execLoad r ra s = .fault f
  simp [execLoad, h]

theorem exec_stor_of_memWrite_ok (h : s.memWrite (s.readReg ra) (s.readReg r) = .ok t) :
    exec (.stor r ra) s = .next t.advance := by
  change execStor r ra s = .next t.advance
  simp [execStor, h]

theorem exec_stor_of_memWrite_error {f : Fault} (h : s.memWrite (s.readReg ra) (s.readReg r) = .error f) :
    exec (.stor r ra) s = .fault f := by
  change execStor r ra s = .fault f
  simp [execStor, h]

end LoadStor

/-! ## The two readings of a byte (30_encoding.md R79, R80) -/

/-- Sign extension is the word of the signed number. -/
theorem sext8_eq_ofInt (imm : BitVec 8) : sext8 imm = BitVec.ofInt 16 imm.toInt := by
  rw [← sext8_toInt, BitVec.ofInt_toInt]

theorem lowByte_toNat (v : Word) : (lowByte v).toNat = v.toNat % 256 := by
  rw [lowByte, BitVec.extractLsb'_toNat, Nat.shiftRight_zero]

/-! ## The results of the instructions (43_memory_extend.md R150 to R154) -/

/-- Settles O42: each case of MemRead is LOAD's, and with no range listed every address is valid. -/
theorem loadResult : Obligations.LoadResult := by
  unfold Obligations.LoadResult
  intro s rd ra v
  have hloads : s.dmemValid (s.readReg ra) = true → s.dataWord (s.readReg ra) = some v →
      ∃ t, exec (.load rd ra) s = .next t ∧ RegResult s t rd v s.psr := fun hvalid hword =>
    exec_load_of_memRead_ok ((s.memRead_eq_ok_iff _ v).mpr ⟨hvalid, hword⟩)
  exact ⟨decode_ofNat_of_encode_eq_packNibbles rfl rfl, hloads,
    fun hinvalid => exec_load_of_memRead_error (State.memRead_of_dmemValid_eq_false hinvalid),
    fun hvalid hnone => exec_load_of_memRead_error (State.memRead_of_dataWord_eq_none hvalid hnone),
    fun hholes => hloads (State.dmemValid_of_dmemHoles_eq_nil hholes _),
    fun a => (s.dmemValid_iff a).trans Prod.forall⟩

/-- Settles O43: each case of MemWrite is STOR's, and a word that MemWrite stores is read back at its address only. -/
theorem storResult : Obligations.StorResult := by
  unfold Obligations.StorResult
  intro s rs ra
  refine ⟨decode_ofNat_of_encode_eq_packNibbles rfl rfl, fun hvalid hcode => ?_,
    fun hinvalid => exec_stor_of_memWrite_error (State.memWrite_of_dmemValid_eq_false hinvalid),
    fun hvalid hunified himage => exec_stor_of_memWrite_error (State.memWrite_of_inImage hvalid hunified himage),
    State.dmemValid_of_dmemHoles_eq_nil, fun hholes hseparate => ?_,
    fun a first last => State.dmemValid_eq_false_of_mem⟩
  · have hwrite := State.memWrite_of_dmemValid (v := s.readReg rs) hvalid hcode
    have hself := State.dataWord_of_memWrite_self hwrite
    have hothers := fun (a : Word) (hne : a ≠ s.readReg ra) => State.dataWord_of_memWrite_of_ne hne hwrite
    have hregs := State.readReg_of_memWrite hwrite
    exact ⟨_, exec_stor_of_memWrite_ok hwrite, hself, hothers, fun _ => rfl, hregs, rfl, rfl, ⟨rfl, rfl, rfl⟩⟩
  · have hcode : ¬(s.params.unifiedMemory = true ∧ s.inImage (s.readReg ra) = true) := by simp [hseparate]
    have hwrite := State.memWrite_of_dmemValid (v := s.readReg rs) (State.dmemValid_of_dmemHoles_eq_nil hholes _) hcode
    have hself := State.dataWord_of_memWrite_self hwrite
    exact ⟨_, exec_stor_of_memWrite_ok hwrite, hself⟩

/-- Settles O45: both write back the low byte, extended with its sign or with zeros. -/
theorem byteExtensionResult : Obligations.ByteExtensionResult := by
  unfold Obligations.ByteExtensionResult
  intro s rd rs
  have hsigned : sext8 (lowByte (s.readReg rs)) = BitVec.ofInt 16 ((s.readReg rs).extractLsb' 0 8).toInt :=
    sext8_eq_ofInt _
  have hunsigned : zext8 (lowByte (s.readReg rs)) = BitVec.ofNat 16 ((s.readReg rs).toNat % 256) := by
    rw [zext8_eq_ofNat, lowByte_toNat]
  rw [← hsigned, ← hunsigned]
  exact ⟨writeBack_result rd _ s, writeBack_result rd _ s⟩

end Sys2Proof.Machine

/-!
PROOFS. 44_control.md: the conditions (R160, R161) and what Scond, Bcond, Jcond and JAL do (R162 to R166). The codes pair
off into conditions and their negations, `Cond.complement`, so what a compare makes of a condition is proved for one of
each pair. Bcond and Jcond are `jumpIf`, Scond is `writeBack`, and the return through the link is JAL's result followed
by Jcond's.
-/

namespace Sys2Proof

/-! ## Complementary conditions (44_control.md R160) -/

/-- The condition whose code differs in bit 0; `Cond.ofNibble_toNibble_xor_one` ties it to the codes. -/
def Cond.complement : Cond → Cond
  | .eq => .ne | .ne => .eq | .cs => .cc | .cc => .cs
  | .hi => .ls | .ls => .hi | .gt => .le | .le => .gt
  | .fs => .fc | .fc => .fs | .lo => .hs | .hs => .lo
  | .lt => .ge | .ge => .lt | .uc => .nv | .nv => .uc

theorem Cond.ofNibble_toNibble_xor_one (c : Cond) : Cond.ofNibble (c.toNibble ^^^ 1#4) = c.complement := by
  cases c <;> rfl

end Sys2Proof

namespace Sys2Proof.Machine

theorem condHolds_complement (p : Psr) (c : Cond) : condHolds p c.complement = !condHolds p c := by
  cases c with
  | eq | cs | hi | gt | fs | uc | nv => rfl
  | ne | cc | ls | le | fc => exact (Bool.not_not _).symm
  | lo | lt => simp [Cond.complement, condHolds]
  | hs | ge => exact (Bool.not_or _ _).symm

theorem condHolds_ofNibble_xor_one (p : Psr) (code : Nibble) :
    condHolds p (Cond.ofNibble (code ^^^ 1#4)) = !condHolds p (Cond.ofNibble code) := by
  have hcode := Cond.ofNibble_toNibble_xor_one (Cond.ofNibble code)
  rw [Cond.toNibble_ofNibble] at hcode
  rw [hcode, condHolds_complement]

theorem condHolds_complement_iff {p : Psr} {c : Cond} {P : Prop} (h : condHolds p c = true ↔ P) :
    condHolds p c.complement = true ↔ ¬P := by
  rw [condHolds_complement, Bool.not_eq_true', ← Bool.not_eq_true, h]

/-- Settles O46: the rows are `condHolds` at the conditions that the codes name. -/
theorem conditionTable : Obligations.ConditionTable := by
  unfold Obligations.ConditionTable
  intro p
  exact ⟨rfl, rfl, rfl, rfl, rfl, rfl, rfl, rfl, rfl, rfl, rfl, rfl, rfl, rfl, rfl, rfl, condHolds_ofNibble_xor_one p⟩

/-! ## The conditions after a compare (44_control.md R161)

`q` is Rdest and `p` the operand compared with it. -/

section Compare

variable (q p : Word) (old : Psr)

theorem condHolds_eq_cmpFlags : condHolds (cmpFlags q p old) .eq = true ↔ p = q :=
  decide_eq_true_iff.trans eq_comm

theorem condHolds_hi_cmpFlags : condHolds (cmpFlags q p old) .hi = true ↔ p.toNat > q.toNat :=
  decide_eq_true_iff

theorem condHolds_gt_cmpFlags : condHolds (cmpFlags q p old) .gt = true ↔ p.toInt > q.toInt :=
  decide_eq_true_iff

/-- Neither above nor equal is below. -/
theorem condHolds_lo_cmpFlags : condHolds (cmpFlags q p old) .lo = true ↔ p.toNat < q.toNat := by
  simp only [condHolds, cmpFlags, Bool.and_eq_true, Bool.not_eq_true', decide_eq_false_iff_not, ← BitVec.toNat_inj]
  omega

theorem condHolds_lt_cmpFlags : condHolds (cmpFlags q p old) .lt = true ↔ p.toInt < q.toInt := by
  simp only [condHolds, cmpFlags, Bool.and_eq_true, Bool.not_eq_true', decide_eq_false_iff_not, ← BitVec.toInt_inj]
  omega

end Compare

theorem compareWith_next {r : RegIx} {b : Word} {s t : State} (h : compareWith r b s = .next t) :
    PsrResult s t (cmpFlags (s.readReg r) b s.psr) := by
  cases h
  exact psrResult_of_setPsr s _

/-- Settles O47: both forms leave `cmpFlags` of Rdest and the operand, and of each complementary pair one condition is
enough. -/
theorem conditionsAfterCompare : Obligations.ConditionsAfterCompare := by
  unfold Obligations.ConditionsAfterCompare
  intro s t rd rs imm p q hq h
  have hpsr : t.psr = cmpFlags q p s.psr := by
    subst hq
    obtain ⟨h, rfl⟩ | ⟨h, rfl⟩ := h
    · exact (compareWith_next h).psr
    · exact (compareWith_next h).psr
  rw [hpsr]
  have heq := condHolds_eq_cmpFlags q p s.psr
  have hhi := condHolds_hi_cmpFlags q p s.psr
  have hlo := condHolds_lo_cmpFlags q p s.psr
  have hgt := condHolds_gt_cmpFlags q p s.psr
  have hlt := condHolds_lt_cmpFlags q p s.psr
  exact ⟨heq, condHolds_complement_iff heq, hhi, (condHolds_complement_iff hhi).trans Nat.not_lt,
    hlo, (condHolds_complement_iff hlo).trans Nat.not_lt, hgt, (condHolds_complement_iff hgt).trans Int.not_lt,
    hlt, (condHolds_complement_iff hlt).trans Int.not_lt⟩

/-! ## The conditional transfer, taken and not taken (44_control.md R163, R164) -/

section JumpIf

variable {s : State} {cond : Cond}

theorem jumpIf_of_condHolds (target : Word) (h : condHolds s.psr cond = true) :
    ∃ t, jumpIf cond target s = .next t ∧ PcResult s t target := by
  have hjump := jumpIf_result cond target s
  rwa [if_pos h] at hjump

theorem jumpIf_of_condHolds_eq_false (target : Word) (h : condHolds s.psr cond = false) :
    ∃ t, jumpIf cond target s = .next t ∧ PcResult s t (s.pc + 1#16) := by
  have hjump := jumpIf_result cond target s
  rwa [if_neg (Bool.eq_false_iff.mp h)] at hjump

end JumpIf

/-- The target of a taken Bcond as the word of one sum of numbers. -/
theorem State.branchTarget_eq_ofInt {s : State} {base : Int}
    (hbase : branchOffset s.params.branchBase = BitVec.ofInt 16 base) (disp : BitVec 8) :
    s.branchTarget disp = BitVec.ofInt 16 (s.pc.toNat + base + disp.toInt) := by
  rw [State.branchTarget, hbase, sext8_eq_ofInt, BitVec.ofInt_add, BitVec.ofInt_add, BitVec.ofInt_natCast,
    BitVec.ofNat_toNat, BitVec.setWidth_eq]

/-! ## The results of the instructions (44_control.md R162 to R166) -/

/-- Settles O48: `writeBack` of the word that the condition chooses. -/
theorem scondResult : Obligations.ScondResult := by
  unfold Obligations.ScondResult
  intro s rd cond
  have hwrite : ∃ t, exec (.scond rd cond) s = .next t ∧
      RegResult s t rd (if condHolds s.psr cond then 0x0001#16 else 0x0000#16) s.psr := writeBack_result rd _ s
  refine ⟨fun h => ?_, fun h => ?_⟩
  · rwa [if_pos h] at hwrite
  · rwa [if_neg (Bool.eq_false_iff.mp h)] at hwrite

/-- Settles O49: for either BRANCH_BASE the target is the word of the sum. -/
theorem bcondResult : Obligations.BcondResult := by
  unfold Obligations.BcondResult
  intro s cond disp base hbase
  have hoffset : branchOffset s.params.branchBase = BitVec.ofInt 16 base := by
    obtain ⟨h, rfl⟩ | ⟨h, rfl⟩ := hbase
    · rw [h]; rfl
    · rw [h]; rfl
  rw [← State.branchTarget_eq_ofInt hoffset]
  exact ⟨jumpIf_of_condHolds _, jumpIf_of_condHolds_eq_false _⟩

/-- Settles O50: Jcond is `jumpIf` to the target register's word. -/
theorem jcondResult : Obligations.JcondResult := by
  unfold Obligations.JcondResult
  exact fun s cond rt => ⟨jumpIf_of_condHolds _, jumpIf_of_condHolds_eq_false _⟩

/-- Settles O51: the pc is given the target as read before the link is written. -/
theorem jalResult : Obligations.JalResult := by
  unfold Obligations.JalResult
  intro s rl rt
  have hlink : OnlyRegWritten s ((s.writeReg rl s.nextPc).goto (s.readReg rt)) rl (s.pc + 1#16) :=
    ⟨s.readReg_writeReg_self rl _, fun q hq => s.readReg_writeReg_of_ne rl q _ hq⟩
  exact ⟨_, rfl, hlink, rfl, rfl, ⟨fun _ => rfl, fun _ => rfl⟩, ⟨rfl, rfl, rfl⟩⟩

/-- Settles O52: UC always holds, so the pc becomes what the link register holds, JAL's next word. -/
theorem returnThroughLink : Obligations.ReturnThroughLink := by
  unfold Obligations.ReturnThroughLink
  intro s t r rl rt h hlink
  have hheld : t.readReg rl = s.pc + 1#16 := by
    obtain ⟨t', ht', hwritten, -⟩ := jalResult s rl rt
    cases ht'.symm.trans h
    exact hwritten.value
  obtain ⟨b, hb, hjump⟩ := (jcondResult r .uc rl).1 rfl
  refine ⟨b, hb, ?_⟩
  rw [hjump.pc, hlink, hheld, BitVec.toNat_add]
  rfl

end Sys2Proof.Machine

/-!
PROOFS. 45_bit_psr.md: what TBIT and TBITI (R175 to R177), LPR (R178) and SPR (R179) do, and that LPR undoes SPR. The
bit tests are `testBit`. LPR and SPR rest on `Psr.ofWord` and `Psr.image` being inverse to each other, up to the bits
that hold no field.
-/

namespace Sys2Proof.Machine

/-! ## The word of the PSR and the PSR of a word (10_state.md R26) -/

/-- Whatever stands in bits 15 to 12, the word of a PSR is loaded as that PSR. -/
theorem Psr.ofWord_image (r : Nibble) (p : Psr) : Psr.ofWord (Psr.image r p) = p := by
  rw [Psr.image_eq_concat]
  simp [Psr.ofWord]

/-- The image of a loaded word keeps the nine fields and zeros the rest: the one-line form of 45_bit_psr.md R178. -/
theorem Psr.image_ofWord (v : Word) : Psr.image 0#4 (Psr.ofWord v) = v &&& 0x0EE7#16 := by
  refine BitVec.eq_of_getLsbD_eq fun k hk => ?_
  rw [Psr.image_eq_concat]
  interval_cases k <;> simp [Psr.ofWord, BitVec.getElem_concat]

/-- Below bit 12 the image does not depend on the free value (decision D14). -/
theorem Psr.image_and_lowBits (r : Nibble) (p : Psr) : Psr.image r p &&& 0x0FFF#16 = Psr.image 0#4 p := by
  refine BitVec.eq_of_getLsbD_eq fun k hk => ?_
  rw [Psr.image_eq_concat, Psr.image_eq_concat]
  interval_cases k <;> simp [BitVec.getElem_concat]

theorem Psr.image_toNat (p : Psr) :
    (Psr.image 0#4 p).toNat = 2048 * p.i.toNat + 1024 * p.p.toNat + 512 * p.e.toNat + 128 * p.n.toNat +
      64 * p.z.toNat + 32 * p.f.toNat + 4 * p.l.toNat + 2 * p.t.toNat + p.c.toNat := by
  rw [Psr.image_eq_concat]
  simp only [BitVec.toNat_concat, BitVec.toNat_ofNat, Bool.toNat_false]
  omega

/-! ## A bit of a word (00_scope.md R8) -/

theorem getLsbD_fifteen_eq_sign (v : Word) : v.getLsbD 15 = decide (v.toInt < 0) :=
  (BitVec.msb_eq_getLsbD_last v).symm.trans BitVec.msb_eq_toInt

theorem getLsbD_zero_eq_parity (v : Word) : v.getLsbD 0 = decide (v.toNat % 2 = 1) :=
  Nat.testBit_zero v.toNat

/-! ## The access to the PSR by its number (45_bit_psr.md R178 to R180) -/

theorem exec_lpr_eq_withPsrNumber (rs : RegIx) (n : Fin 16) (s : State) :
    exec (.lpr rs n) s = withPsrNumber n s fun s => .next (s.setPsr (Psr.ofWord (s.readReg rs))).advance := rfl

theorem exec_spr_eq_withPsrNumber (n : Fin 16) (rd : RegIx) (s : State) :
    exec (.spr n rd) s = withPsrNumber n s fun s => writeBack rd (Psr.image s.nextDraw s.psr) s.countDraw := rfl

theorem exec_lpr_result (s : State) (rs : RegIx) :
    ∃ t, exec (.lpr rs s.params.psrRproc) s = .next t ∧ PsrResult s t (Psr.ofWord (s.readReg rs)) := by
  rw [exec_lpr_eq_withPsrNumber, withPsrNumber_eq _ s _ rfl]
  exact ⟨_, rfl, psrResult_of_setPsr s _⟩

/-- SPR writes back the image from the state that has counted the draw. -/
theorem exec_spr_result (s : State) (rd : RegIx) :
    ∃ t, exec (.spr s.params.psrRproc rd) s = .next t ∧
      RegResult s.countDraw t rd (Psr.image s.nextDraw s.psr) s.psr := by
  rw [exec_spr_eq_withPsrNumber, withPsrNumber_eq _ s _ rfl]
  exact writeBack_result rd _ s.countDraw

/-! ## The results of the instructions (45_bit_psr.md R175 to R180) -/

/-- Settles O53: the offset is the whole register's number, and `testBit` faults above 15. -/
theorem tbitResult : Obligations.TbitResult := by
  unfold Obligations.TbitResult
  exact fun s rs ro => ⟨testBit_inRange rs (s.readReg ro).toNat s, testBit_outOfRange rs (s.readReg ro).toNat s⟩

/-- Settles O54: a four bit offset is always in range. -/
theorem tbitiResult : Obligations.TbitiResult := by
  unfold Obligations.TbitiResult
  intro s rs k
  obtain ⟨t, ht, hresult⟩ := testBit_inRange rs k.val s (by omega)
  have hf : t.psr.f = (s.readReg rs).getLsbD k.val := congrArg Psr.f hresult.psr
  refine ⟨decode_ofNat_of_encode_eq_packNibbles rfl rfl, t, ht, hresult, ?_, ?_⟩
  · rintro rfl
    exact hf.trans (getLsbD_fifteen_eq_sign _)
  · rintro rfl
    exact hf.trans (getLsbD_zero_eq_parity _)

/-- Settles O55: the new PSR is `Psr.ofWord` of the register, whose fields are the bits named. -/
theorem lprResult : Obligations.LprResult := by
  unfold Obligations.LprResult
  intro s rs
  refine ⟨fun n hn => (exec_lpr_eq_withPsrNumber rs n s).trans (withPsrNumber_ne n s _ hn), ?_⟩
  obtain ⟨t, ht, hresult⟩ := exec_lpr_result s rs
  refine ⟨t, ht, ?_⟩
  rw [hresult.psr]
  exact ⟨hresult, rfl, rfl, rfl, rfl, rfl, rfl, rfl, rfl, rfl, Psr.image_ofWord _⟩

/-- Settles O56: the register is given the image, which below bit 12 is the sum of the fields. -/
theorem sprResult : Obligations.SprResult := by
  unfold Obligations.SprResult
  intro s rd
  refine ⟨fun n hn => (exec_spr_eq_withPsrNumber n rd s).trans (withPsrNumber_ne n s _ hn), ?_⟩
  obtain ⟨t, ht, hregs, hpsr, hpc, hmemory, hcontrol⟩ := exec_spr_result s rd
  refine ⟨t, ht, ?_, hregs.others, hpsr, hpc, ⟨hmemory.data, hmemory.code⟩, hcontrol.waiting, hcontrol.params,
    hcontrol.draws⟩
  rw [hregs.value, Psr.image_and_lowBits, ← Psr.image_toNat, BitVec.ofNat_toNat, BitVec.setWidth_eq]

/-- Settles O57: the register holds the image that SPR wrote, and LPR loads it back. -/
theorem sprThenLprRestoresPsr : Obligations.SprThenLprRestoresPsr := by
  unfold Obligations.SprThenLprRestoresPsr
  intro s t r rd h hheld hparams
  have hword : t.readReg rd = Psr.image s.nextDraw s.psr := by
    obtain ⟨t', ht', hresult⟩ := exec_spr_result s rd
    cases ht'.symm.trans h
    exact hresult.regs.value
  obtain ⟨b, hb, hresult⟩ := exec_lpr_result r rd
  rw [hparams] at hb
  refine ⟨b, hb, ?_⟩
  rw [hresult.psr, hheld, hword, Psr.ofWord_image]

end Sys2Proof.Machine

/-!
PROOFS. 46_system.md: the four instructions that have an encoding and no effect (R185 to R189), and WAIT with the machine
it leaves behind (R193).
-/

namespace Sys2Proof.Machine

/-! ## The instructions without an effect (46_system.md R185 to R189, R195) -/

/-- Whichever reason `Refusal.unmodelled` can name, the instruction it names is refused for that reason. -/
theorem exec_encodingOnly (what : EncodingOnly) (s : State) : exec what.instr s = .refused (.unmodelled what) := by
  cases what with
  | di => rfl
  | ei => rfl
  | excp vector => rfl
  | retx => rfl

/-- Settles O59: the four instructions are those that `EncodingOnly` names. -/
theorem undocumentedSystemInstructionsRefused : Obligations.UndocumentedSystemInstructionsRefused := by
  unfold Obligations.UndocumentedSystemInstructionsRefused
  exact fun s vector =>
    ⟨exec_encodingOnly .di s, exec_encodingOnly .ei s, exec_encodingOnly (.excp vector) s, exec_encodingOnly .retx s⟩

/-! ## WAIT (46_system.md R193) -/

/-- WAIT never stops: its next state is the suspended one. -/
theorem exec_wait (s : State) : exec .wait s = .next s.suspend := rfl

theorem State.suspend_sameRegs (s : State) : SameRegs s s.suspend := fun _ => rfl

theorem State.suspend_sameMemory (s : State) : SameMemory s s.suspend := ⟨s.suspend_dataWord, s.suspend_codeWord⟩

/-- Settles O58: suspending a state is all that WAIT does, and it sets `waiting` alone. -/
theorem waitResult : Obligations.WaitResult := by
  unfold Obligations.WaitResult
  exact fun s => ⟨s.suspend, exec_wait s, s.suspend_waiting, s.suspend_pc, s.suspend_sameRegs, s.suspend_psr,
    s.suspend_sameMemory, s.suspend_params, s.suspend_draws⟩

/-! ## The waiting machine (46_system.md R193; 60_exceptions.md R213) -/

/-- Nothing is fetched while the machine waits: the other half of `step_of_fetchInstr`. -/
theorem step_of_waiting (s : State) (hs : s.waiting = true) : step s = .next s := if_pos hs

/-- A state that is its own next state is the end of a run of any length from it. -/
theorem runs_self_of_step_self {s : State} (hstep : step s = .next s) (n : Nat) : runs n s s := by
  induction n with
  | zero => exact (runs_zero_iff s s).mpr rfl
  | succ n ih => exact (runs_succ_iff n s s).mpr ⟨s, hstep, ih⟩

/-- Settles O10: a waiting machine's step is a self-loop, so every run from it stays. -/
theorem waitingMachineStays : Obligations.WaitingMachineStays := by
  unfold Obligations.WaitingMachineStays
  exact fun n s hs => runs_self_of_step_self (step_of_waiting s hs) n

end Sys2Proof.Machine

/-!
PROOFS. 60_exceptions.md: which instructions stop, and exactly when (R201; decisions D3, D4, D11 to D13, D17). `Faults`
lists the causes, one constructor for each, `Answers` what one instruction can answer at all. `exec_answers` goes through
the instructions once; every clause of the obligation is then read off the list.
-/

namespace Sys2Proof.Machine

/-! ## The causes of a stop (60_exceptions.md R201) -/

/-- `Faults s i f`: the operands of `i` in the state `s` are those for which the spec names the fault `f`.
`exec_eq_fault_iff` ties it to `exec`. -/
inductive Faults (s : State) : Instr → Fault → Prop where
  | lsh (rd ra : RegIx) (outside : (s.readReg ra).toInt < -15 ∨ 15 < (s.readReg ra).toInt) :
      Faults s (.lsh rd ra) (.shiftAmountOutOfRange (s.readReg ra).toInt)
  | ashu (rd ra : RegIx) (outside : (s.readReg ra).toInt < -15 ∨ 15 < (s.readReg ra).toInt) :
      Faults s (.ashu rd ra) (.shiftAmountOutOfRange (s.readReg ra).toInt)
  | lshi (rd : RegIx) (amount : BitVec 5) (outside : amount.toInt < -15 ∨ 15 < amount.toInt) :
      Faults s (.lshi rd amount) (.shiftAmountOutOfRange amount.toInt)
  | ashui (rd : RegIx) (amount : BitVec 5) (outside : amount.toInt < -15 ∨ 15 < amount.toInt) :
      Faults s (.ashui rd amount) (.shiftAmountOutOfRange amount.toInt)
  | tbit (rs ro : RegIx) (above : 15 < (s.readReg ro).toNat) :
      Faults s (.tbit rs ro) (.bitOffsetOutOfRange (s.readReg ro).toNat)
  | lpr (rs : RegIx) (n : Fin 16) (unknown : n ≠ s.params.psrRproc) :
      Faults s (.lpr rs n) (.unknownProcessorRegister n)
  | spr (n : Fin 16) (rd : RegIx) (unknown : n ≠ s.params.psrRproc) :
      Faults s (.spr n rd) (.unknownProcessorRegister n)
  | loadInvalid (rd ra : RegIx) (invalid : s.dmemValid (s.readReg ra) = false) :
      Faults s (.load rd ra) (.invalidDataAddress (s.readReg ra))
  | storInvalid (rs ra : RegIx) (invalid : s.dmemValid (s.readReg ra) = false) :
      Faults s (.stor rs ra) (.invalidDataAddress (s.readReg ra))
  | storToCode (rs ra : RegIx) (valid : s.dmemValid (s.readReg ra) = true)
      (unified : s.params.unifiedMemory = true) (image : s.inImage (s.readReg ra) = true) :
      Faults s (.stor rs ra) (.storeToCode (s.readReg ra))
  | loadUnwritten (rd ra : RegIx) (valid : s.dmemValid (s.readReg ra) = true)
      (unwritten : s.dataWord (s.readReg ra) = none) :
      Faults s (.load rd ra) (.readOfUnwrittenState (.dmem (s.readReg ra)))

/-- What `i` can answer in the state `s`: a next state, a fault whose cause is listed, or the refusal of an instruction
that has an encoding only. -/
inductive Answers (s : State) (i : Instr) : Result → Prop where
  | next (t : State) : Answers s i (.next t)
  | fault (f : Fault) (cause : Faults s i f) : Answers s i (.fault f)
  | refused (what : EncodingOnly) (named : i = what.instr) : Answers s i (.refused (.unmodelled what))

section Shapes

variable {s : State} {i : Instr}

theorem Answers.of_shiftBy {shift : Word → Int → Word} {r : RegIx} {n : Int}
    (cause : n < -15 ∨ 15 < n → Faults s i (.shiftAmountOutOfRange n)) : Answers s i (shiftBy shift r n s) := by
  by_cases hn : -15 ≤ n ∧ n ≤ 15
  · obtain ⟨t, ht, -⟩ := shiftBy_inRange shift r n s hn
    exact ht ▸ .next t
  · have houtside : n < -15 ∨ 15 < n := by omega
    exact shiftBy_outOfRange shift r n s houtside ▸ .fault _ (cause houtside)

theorem Answers.of_testBit {r : RegIx} {k : Nat} (cause : 15 < k → Faults s i (.bitOffsetOutOfRange k)) :
    Answers s i (testBit r k s) := by
  obtain hk | hk := le_or_gt k 15
  · obtain ⟨t, ht, -⟩ := testBit_inRange r k s hk
    exact ht ▸ .next t
  · exact testBit_outOfRange r k s hk ▸ .fault _ (cause hk)

theorem Answers.of_withPsrNumber {n : Fin 16} {act : State → Result} (completes : Answers s i (act s))
    (cause : n ≠ s.params.psrRproc → Faults s i (.unknownProcessorRegister n)) :
    Answers s i (withPsrNumber n s act) := by
  by_cases hn : n = s.params.psrRproc
  · exact withPsrNumber_eq n s act hn ▸ completes
  · exact withPsrNumber_ne n s act hn ▸ .fault _ (cause hn)

end Shapes

theorem exec_load_answers (s : State) (rd ra : RegIx) : Answers s (.load rd ra) (exec (.load rd ra) s) := by
  cases hvalid : s.dmemValid (s.readReg ra) with
  | false =>
    exact exec_load_of_memRead_error (State.memRead_of_dmemValid_eq_false hvalid) ▸ .fault _ (.loadInvalid rd ra hvalid)
  | true =>
    cases hword : s.dataWord (s.readReg ra) with
    | none =>
      exact exec_load_of_memRead_error (State.memRead_of_dataWord_eq_none hvalid hword) ▸
        .fault _ (.loadUnwritten rd ra hvalid hword)
    | some v =>
      obtain ⟨t, ht, -⟩ := exec_load_of_memRead_ok (r := rd) ((s.memRead_eq_ok_iff _ v).mpr ⟨hvalid, hword⟩)
      exact ht ▸ .next t

theorem exec_stor_answers (s : State) (rs ra : RegIx) : Answers s (.stor rs ra) (exec (.stor rs ra) s) := by
  cases hvalid : s.dmemValid (s.readReg ra) with
  | false =>
    exact exec_stor_of_memWrite_error (State.memWrite_of_dmemValid_eq_false hvalid) ▸
      .fault _ (.storInvalid rs ra hvalid)
  | true =>
    by_cases hcode : s.params.unifiedMemory = true ∧ s.inImage (s.readReg ra) = true
    · obtain ⟨hunified, himage⟩ := hcode
      exact exec_stor_of_memWrite_error (State.memWrite_of_inImage hvalid hunified himage) ▸
        .fault _ (.storToCode rs ra hvalid hunified himage)
    · exact exec_stor_of_memWrite_ok (State.memWrite_of_dmemValid hvalid hcode) ▸ .next _

/-- Every instruction answers in one of the ways of `Answers`. -/
theorem exec_answers (i : Instr) (s : State) : Answers s i (exec i s) := by
  cases i
  case add | addi | addu | addui | addc | addci | mul | muli | sub | subi | subc | subci | cmp | cmpi => exact .next _
  case and | andi | or | ori | xor | xori | mov | movi | lui | snxb | zrxb | scond => exact .next _
  case bcond | jcond | jal | wait => exact .next _
  case lsh => exact .of_shiftBy (.lsh _ _)
  case ashu => exact .of_shiftBy (.ashu _ _)
  case lshi => exact .of_shiftBy (.lshi _ _)
  case ashui => exact .of_shiftBy (.ashui _ _)
  case tbit => exact .of_testBit (.tbit _ _)
  case tbiti _ offset => exact .of_testBit fun habove => by omega
  case lpr rs n => exact exec_lpr_eq_withPsrNumber rs n s ▸ .of_withPsrNumber (.next _) (.lpr rs n)
  case spr n rd => exact exec_spr_eq_withPsrNumber n rd s ▸ .of_withPsrNumber (.next _) (.spr n rd)
  case load => exact exec_load_answers s _ _
  case stor => exact exec_stor_answers s _ _
  case di => exact .refused .di rfl
  case ei => exact .refused .ei rfl
  case excp vector => exact .refused (.excp vector) rfl
  case retx => exact .refused .retx rfl

theorem faults_of_exec {s : State} {i : Instr} {f : Fault} (h : exec i s = .fault f) : Faults s i f := by
  cases h ▸ exec_answers i s with
  | fault _ cause => exact cause

/-- The instruction of a listed cause raises its fault. -/
theorem exec_of_faults {s : State} {i : Instr} {f : Fault} (h : Faults s i f) : exec i s = .fault f := by
  cases h with
  | lsh _ _ houtside | ashu _ _ houtside | lshi _ _ houtside | ashui _ _ houtside =>
    exact shiftBy_outOfRange _ _ _ s houtside
  | tbit _ _ habove => exact testBit_outOfRange _ _ s habove
  | lpr rs n hunknown => exact (exec_lpr_eq_withPsrNumber rs n s).trans (withPsrNumber_ne n s _ hunknown)
  | spr n rd hunknown => exact (exec_spr_eq_withPsrNumber n rd s).trans (withPsrNumber_ne n s _ hunknown)
  | loadInvalid _ _ hinvalid => exact exec_load_of_memRead_error (State.memRead_of_dmemValid_eq_false hinvalid)
  | storInvalid _ _ hinvalid => exact exec_stor_of_memWrite_error (State.memWrite_of_dmemValid_eq_false hinvalid)
  | storToCode _ _ hvalid hunified himage =>
    exact exec_stor_of_memWrite_error (State.memWrite_of_inImage hvalid hunified himage)
  | loadUnwritten _ _ hvalid hnone =>
    exact exec_load_of_memRead_error (State.memRead_of_dataWord_eq_none hvalid hnone)

theorem exec_eq_fault_iff {s : State} {i : Instr} {f : Fault} : exec i s = .fault f ↔ Faults s i f :=
  ⟨faults_of_exec, exec_of_faults⟩

/-! ## The causes by fault -/

section ByFault

variable {s : State} {i : Instr}

theorem faults_shiftAmountOutOfRange_iff {n : Int} :
    Faults s i (.shiftAmountOutOfRange n) ↔
      (n < -15 ∨ 15 < n) ∧
      ((∃ rd ra, (i = .lsh rd ra ∨ i = .ashu rd ra) ∧ n = (s.readReg ra).toInt) ∨
        (∃ rd amount, (i = .lshi rd amount ∨ i = .ashui rd amount) ∧ n = amount.toInt)) := by
  constructor
  · intro h
    cases h with
    | lsh rd ra houtside => exact ⟨houtside, .inl ⟨rd, ra, .inl rfl, rfl⟩⟩
    | ashu rd ra houtside => exact ⟨houtside, .inl ⟨rd, ra, .inr rfl, rfl⟩⟩
    | lshi rd amount houtside => exact ⟨houtside, .inr ⟨rd, amount, .inl rfl, rfl⟩⟩
    | ashui rd amount houtside => exact ⟨houtside, .inr ⟨rd, amount, .inr rfl, rfl⟩⟩
  · rintro ⟨houtside, ⟨rd, ra, rfl | rfl, rfl⟩ | ⟨rd, amount, rfl | rfl, rfl⟩⟩
    · exact .lsh rd ra houtside
    · exact .ashu rd ra houtside
    · exact .lshi rd amount houtside
    · exact .ashui rd amount houtside

theorem faults_bitOffsetOutOfRange_iff {k : Nat} :
    Faults s i (.bitOffsetOutOfRange k) ↔ 15 < k ∧ ∃ rs ro, i = .tbit rs ro ∧ k = (s.readReg ro).toNat := by
  constructor
  · intro h
    cases h with
    | tbit rs ro habove => exact ⟨habove, rs, ro, rfl, rfl⟩
  · rintro ⟨habove, rs, ro, rfl, rfl⟩
    exact .tbit rs ro habove

theorem faults_unknownProcessorRegister_iff {n : Fin 16} :
    Faults s i (.unknownProcessorRegister n) ↔ n ≠ s.params.psrRproc ∧ ∃ r, i = .lpr r n ∨ i = .spr n r := by
  constructor
  · intro h
    cases h with
    | lpr rs _ hunknown => exact ⟨hunknown, rs, .inl rfl⟩
    | spr _ rd hunknown => exact ⟨hunknown, rd, .inr rfl⟩
  · rintro ⟨hunknown, r, rfl | rfl⟩
    · exact .lpr r n hunknown
    · exact .spr n r hunknown

theorem faults_invalidDataAddress_iff {a : Word} :
    Faults s i (.invalidDataAddress a) ↔
      s.dmemValid a = false ∧ ∃ r ra, (i = .load r ra ∨ i = .stor r ra) ∧ a = s.readReg ra := by
  constructor
  · intro h
    cases h with
    | loadInvalid rd ra hinvalid => exact ⟨hinvalid, rd, ra, .inl rfl, rfl⟩
    | storInvalid rs ra hinvalid => exact ⟨hinvalid, rs, ra, .inr rfl, rfl⟩
  · rintro ⟨hinvalid, r, ra, rfl | rfl, rfl⟩
    · exact .loadInvalid r ra hinvalid
    · exact .storInvalid r ra hinvalid

theorem faults_storeToCode_iff {a : Word} :
    Faults s i (.storeToCode a) ↔
      s.dmemValid a = true ∧ s.params.unifiedMemory = true ∧ s.inImage a = true ∧
        ∃ rs ra, i = .stor rs ra ∧ a = s.readReg ra := by
  constructor
  · intro h
    cases h with
    | storToCode rs ra hvalid hunified himage => exact ⟨hvalid, hunified, himage, rs, ra, rfl, rfl⟩
  · rintro ⟨hvalid, hunified, himage, rs, ra, rfl, rfl⟩
    exact .storToCode rs ra hvalid hunified himage

theorem faults_readOfUnwrittenData_iff {a : Word} :
    Faults s i (.readOfUnwrittenState (.dmem a)) ↔
      s.dmemValid a = true ∧ s.dataWord a = none ∧ ∃ rd ra, i = .load rd ra ∧ a = s.readReg ra := by
  constructor
  · intro h
    cases h with
    | loadUnwritten rd ra hvalid hnone => exact ⟨hvalid, hnone, rd, ra, rfl, rfl⟩
  · rintro ⟨hvalid, hnone, rd, ra, rfl, rfl⟩
    exact .loadUnwritten rd ra hvalid hnone

/-- The faults of the decoding and of the fetch are the step's and no instruction's (30_encoding.md R88; 20_memory.md
R58). -/
theorem not_faults_of_fetch (w : Word) :
    ¬ Faults s i (.illegalInstruction w) ∧ ¬ Faults s i (.readOfUnwrittenState (.imem w)) := by
  constructor <;> rintro ⟨⟩

/-- Refused are the instructions that `EncodingOnly` names, under their own names (46_system.md R185). -/
theorem exec_eq_refused_iff {r : Refusal} : exec i s = .refused r ↔ ∃ what, r = .unmodelled what ∧ i = what.instr := by
  constructor
  · intro h
    cases h ▸ exec_answers i s with
    | refused what hnamed => exact ⟨what, rfl, hnamed⟩
  · rintro ⟨what, rfl, rfl⟩
    exact exec_encodingOnly what s

end ByFault

/-- Settles O21: each fault by the causes listed in `Faults`, the refusals by `exec_eq_refused_iff`. -/
theorem stopCausesAreThoseListed : Obligations.StopCausesAreThoseListed := by
  unfold Obligations.StopCausesAreThoseListed
  simp only [ne_eq, exec_eq_fault_iff]
  exact fun i s =>
    ⟨fun _ => faults_shiftAmountOutOfRange_iff, fun _ => faults_bitOffsetOutOfRange_iff,
      fun _ => faults_unknownProcessorRegister_iff, fun _ => faults_invalidDataAddress_iff,
      fun _ => faults_storeToCode_iff, fun _ => faults_readOfUnwrittenData_iff, not_faults_of_fetch,
      fun _ => exec_eq_refused_iff⟩

end Sys2Proof.Machine

/-!
PROOFS. 70_reset_and_hazards.md: what the host's loading does to the two memories (R235; 10_state.md R37), with separate
memories and with one (20_memory.md R59). What is listed after `Memory.writeAll` is `Memory.read_writeAll` and
`Memory.read_writeAll_of_ne`; the data word at an address follows from the program word there and from DMEM.
-/

namespace Sys2Proof.Machine

/-! ## The data word by the organisation of the memories (20_memory.md R59) -/

section DataWord

variable {s t : State} {a : Word}

/-- With one memory an address of the image reads the program's word. -/
theorem State.dataWord_of_unified {w : Word} (hunified : s.params.unifiedMemory = true)
    (hcode : s.codeWord a = some w) : s.dataWord a = some w := by
  simp [State.dataWord, State.inImage, hunified, hcode]

/-- With separate memories, and outside the image, the data word is the one listed in DMEM. -/
theorem State.dataWord_of_not_hidden (h : s.params.unifiedMemory = false ∨ s.codeWord a = none) :
    s.dataWord a = s.dmem.read a.toNat := by
  obtain h | h := h <;> simp [State.dataWord, State.inImage, h]

/-- The data word depends on the organisation and on what the two memories hold at the address, and on nothing else. -/
theorem State.dataWord_congr (hparams : t.params = s.params) (hcode : t.codeWord a = s.codeWord a)
    (hdata : t.dmem.read a.toNat = s.dmem.read a.toNat) : t.dataWord a = s.dataWord a := by
  unfold State.dataWord State.inImage
  rw [hparams, hcode, hdata]

end DataWord

/-! ## Loading the program and the data (70_reset_and_hazards.md R235) -/

section Loading

variable {s : State} {start a : Word} {ws : List Word}

theorem State.loadCode_codeWord (hl : ws.length ≤ 65536) {k : Nat} (hk : k < ws.length) :
    (s.loadCode start ws).codeWord (start + BitVec.ofNat 16 k) = some ws[k] :=
  Memory.read_writeAll s.imem start ws hl k hk

theorem State.loadCode_codeWord_of_ne (h : ∀ k : Nat, k < ws.length → a ≠ start + BitVec.ofNat 16 k) :
    (s.loadCode start ws).codeWord a = s.codeWord a :=
  Memory.read_writeAll_of_ne s.imem start a ws h

theorem State.loadCode_dataWord_of_ne (h : ∀ k : Nat, k < ws.length → a ≠ start + BitVec.ofNat 16 k) :
    (s.loadCode start ws).dataWord a = s.dataWord a :=
  State.dataWord_congr rfl (State.loadCode_codeWord_of_ne h) rfl

/-- With separate memories loading a program touches no data word. -/
theorem State.loadCode_dataWord_of_separate (h : s.params.unifiedMemory = false) :
    (s.loadCode start ws).dataWord a = s.dataWord a := by
  have hloaded : (s.loadCode start ws).dataWord a = s.dmem.read a.toNat := State.dataWord_of_not_hidden (.inl h)
  rw [hloaded, State.dataWord_of_not_hidden (.inl h)]

/-- Loaded data is read where the image does not hide it. -/
theorem State.loadData_dataWord (hl : ws.length ≤ 65536) {k : Nat} (hk : k < ws.length)
    (h : s.params.unifiedMemory = false ∨ s.codeWord (start + BitVec.ofNat 16 k) = none) :
    (s.loadData start ws).dataWord (start + BitVec.ofNat 16 k) = some ws[k] := by
  have hvisible : (s.loadData start ws).params.unifiedMemory = false ∨
      (s.loadData start ws).codeWord (start + BitVec.ofNat 16 k) = none := h
  rw [State.dataWord_of_not_hidden hvisible]
  exact Memory.read_writeAll s.dmem start ws hl k hk

theorem State.loadData_dataWord_of_ne (h : ∀ k : Nat, k < ws.length → a ≠ start + BitVec.ofNat 16 k) :
    (s.loadData start ws).dataWord a = s.dataWord a :=
  State.dataWord_congr rfl rfl (Memory.read_writeAll_of_ne s.dmem start a ws h)

end Loading

/-- Settles O60: the loaded words by `Memory.read_writeAll`, the others by `Memory.read_writeAll_of_ne`; loading
replaces one memory and no other field. -/
theorem hostLoadingPlacesWords : Obligations.HostLoadingPlacesWords := by
  unfold Obligations.HostLoadingPlacesWords
  intro s start ws hl
  refine ⟨fun k hk => ?_, fun a ha => ?_, fun a => ⟨s.loadData_codeWord start ws a, State.loadCode_dataWord_of_separate⟩,
    ?_⟩
  · have hcode : (s.loadCode start ws).codeWord (start + BitVec.ofNat 16 k) = some ws[k] :=
      State.loadCode_codeWord hl hk
    exact ⟨hcode, fun hunified => State.dataWord_of_unified hunified hcode, State.loadData_dataWord hl hk⟩
  · exact ⟨State.loadCode_codeWord_of_ne ha, State.loadCode_dataWord_of_ne ha, State.loadData_dataWord_of_ne ha⟩
  · rintro t (rfl | rfl)
    · exact ⟨s.loadCode_readReg start ws, rfl, rfl, rfl, rfl, rfl⟩
    · exact ⟨s.loadData_readReg start ws, rfl, rfl, rfl, rfl, rfl⟩

end Sys2Proof.Machine
